-- ==== Sys2Proof/Word.lean ====
section
/-! DEFINITION. The word types of the block (R6, 00_scope.md): a byte, and the unsigned words whose
arithmetic wraps. -/

namespace Sys2Proof

/-- `u8` (R6). -/
abbrev Byte := BitVec 8

/-- `u16`, the width of canId (R5 `CANID_W`). -/
abbrev Word16 := BitVec 16

/-- `u32`, the width of packetId, of `rx_bad_count` and of the register view (R5, R33). -/
abbrev Word32 := BitVec 32

end Sys2Proof
end

