-- ==== Sys2Proof/Config.lean ====
section
/-! DEFINITION. The parameters of an instance (R5, 00_scope.md) and the free values: what the spec
leaves open is a constant without a body, so that nothing can be proved of its value. -/

namespace Sys2Proof

/-- `ROLE` (R2, R5): which of the two units an instance holds, fixed per instance. -/
inductive Role where
  | tx
  | rx
deriving DecidableEq, Repr

/-- One less than the number of link-quality values (R5 `LQ`, U2, `OPEN`; log 7). -/
opaque Config.lqBound : Nat

/-- `LQ` (R5, D13, `OPEN`): the type of one link-quality value, opaque. DESIGN CHOICE (safe, log 7): its
values are finitely many, how many is open, and the model defines no operation on them but
equality. -/
structure LQ where
  value : Fin (Config.lqBound + 1)
deriving DecidableEq, Repr, Inhabited

/-- One link-quality value, whichever it stands for (log 7). -/
def LQ.zero : LQ := ⟨⟨0, Nat.succ_pos _⟩⟩

/-- The parameters of one instance (R5). They are "not state; it is a parameter of the step relation"
(R38): no event writes them. DESIGN CHOICE (log 5): a state carries them, so that a claim about every
state quantifies over them. -/
structure Params where
  /-- `ROLE`. -/
  role : Role
  /-- `SEQ_INIT`, OPEN: the reset value of `seq` (R24, D7). -/
  seqInit : Word32
  /-- `RX_MAX_BYTES`, OPEN: the largest byte count the transport can report (R28, D28). -/
  rxMaxBytes : Nat
deriving DecidableEq, Repr

/-- `PKT_SIZE` (R5, R61): a packet is exactly 15 bytes. -/
def pktSize : Nat := 15

/-- `MAX_LEN` (R5, R63): the largest value of len. -/
def maxLen : Nat := 8

/-- SEQ_INIT of the instance that `State.reset` is (R5 `OPEN`, U11; log 6). -/
opaque Config.seqInit : Word32

/-- RX_MAX_BYTES of the instance that `State.reset` is (R5 `OPEN`, U14; log 6). -/
opaque Config.rxMaxBytes : Nat

/-- The byte at an offset of `tx_buf` after the reset of a given draw, power-on being draw 0: "unspecified"
(R25, R37, R144, U12; log 8, log 9). -/
opaque Config.freeTxByte (draw offset : Nat) : Byte

/-- The outcome left in `rx_latch` by the RESET event of a given draw, as an index of the five outcomes
(R37, R144, U13; log 9). -/
opaque Config.freeOutcome (draw : Nat) : Fin 5

/-- The bytes left in `rx_latch` by a given draw, before the bound RX_MAX_BYTES is applied (R28, R122,
U13; log 9, log 11). -/
opaque Config.freeBytes (draw : Nat) : List Byte

/-- The rssi left in `rx_latch` by a given draw (R122, U13; log 9, log 11). -/
opaque Config.freeRssi (draw : Nat) : LQ

/-- The snr left in `rx_latch` by a given draw (R122, U13; log 9, log 11). -/
opaque Config.freeSnr (draw : Nat) : LQ

/-- `LQ_FORMAT` (R178, U4, D34, `OPEN`): the link-quality suffix of the sink's line (log 17). -/
opaque Config.lqFormat (rssi snr : LQ) : List Char

/-- How an event line writes one link-quality value (R79 `<v>`, U2; log 22). -/
opaque Config.lqText (v : LQ) : List Char

/-- Whether the sink writes hexadecimal digits in uppercase (R178 "uppercase or lowercase consistent",
U5; log 17). -/
opaque Config.sinkUppercase : Bool

end Sys2Proof
end

