-- ==== Sys2Proof/Syntax.lean ====
section
/-! DEFINITION. The event operations of both units (R70, R71, 30_encoding.md; one constructor per row of
opcode_table.json), their operands, and the event a unit is presented with: an event word and a typed
payload. -/

namespace Sys2Proof

/-- The CAN frame input (R66): a 29-bit identifier, a 4-bit length (0 to 15) and exactly 8 data bytes, of
which the first `min length 8` are payload and the rest whatever the CAN source presents. -/
structure CanFrame where
  id : BitVec 29
  length : BitVec 4
  data : Vector Byte 8
deriving DecidableEq, Repr

/-- The status of a transfer-complete notification, bit 4 of the event word (R73). -/
inductive TxStatus where
  /-- `s = 0`: the transport completed the transfer. -/
  | ok
  /-- `s = 1`: hardware failure. -/
  | fail
deriving DecidableEq, Repr

/-- What the transport reports with a receive-complete notification (R28, R72). -/
inductive RxOutcome where
  | data
  | timeout
  | integrityFail
  | headerFail
  | transportError
deriving DecidableEq, Repr

/-- An event operation with its operands (R71; opcode_table.json). -/
inductive Instr where
  /-- `RESET` (R144). -/
  | reset
  /-- `START` (R140). -/
  | start
  /-- `CAN_FRAME` (R110). -/
  | canFrame (frame : CanFrame)
  /-- `TX_DONE` (R115). -/
  | txDone (status : TxStatus)
  /-- `RX_DONE` with outcome `DATA` (R121). -/
  | rxDoneData (bytes : List Byte) (rssi snr : LQ)
  /-- `RX_DONE` with outcome `TIMEOUT` (R121). -/
  | rxDoneTimeout
  /-- `RX_DONE` with outcome `INTEGRITY_FAIL` (R121). -/
  | rxDoneIntegrityFail
  /-- `RX_DONE` with outcome `HEADER_FAIL` (R121). -/
  | rxDoneHeaderFail
  /-- `RX_DONE` with outcome `TRANSPORT_ERROR` (R121). -/
  | rxDoneTransportError
  /-- `RX_SERVICE` (R126), the unit's internal event. -/
  | rxService
  /-- `REG_READ r` (R142). -/
  | regRead (r : BitVec 4)
deriving DecidableEq, Repr

/-- The payload presented beside an event word: "typed data, not bits" (R70). The data of a CAN frame is
a raw list here, since a payload may have a shape its word does not select (R77). -/
inductive Payload where
  | empty
  | canFrame (id : BitVec 29) (length : BitVec 4) (data : List Byte)
  | rxData (bytes : List Byte) (rssi snr : LQ)
deriving DecidableEq, Repr

/-- An event as the interface presents it: an event word and a payload (R70). -/
structure Event where
  word : Byte
  payload : Payload
deriving DecidableEq, Repr

end Sys2Proof
end

