-- ==== Sys2Proof/WellFormed.lean ====
section
/-! DEFINITION. Which operations an instance accepts (R71, R77, R78, 30_encoding.md): those of its own
unit, with a payload the transport can report. -/

namespace Sys2Proof

/-- Whether a byte sequence is no longer than `n` bytes. It looks at the sequence first, so that the
empty one fits an open bound. -/
def fits : List Byte → Nat → Bool
  | [], _ => true
  | _ :: _, 0 => false
  | _ :: bs, n + 1 => fits bs n

/-- The units that take an operation, column "unit" of R71; none for an operation of both units. -/
def unitOf : Instr → Option Role
  | .reset => none
  | .start => none
  | .canFrame _ => some .tx
  | .txDone _ => some .tx
  | .rxDoneData _ _ _ => some .rx
  | .rxDoneTimeout => some .rx
  | .rxDoneIntegrityFail => some .rx
  | .rxDoneHeaderFail => some .rx
  | .rxDoneTransportError => some .rx
  | .rxService => some .rx
  | .regRead _ => none

/-- Whether an operation has an operand within the bound the spec sets on it: the bytes of a `DATA`
outcome number at most RX_MAX_BYTES (R28, R72). -/
def operandFits (p : Params) : Instr → Bool
  | .rxDoneData bytes _ _ => fits bytes p.rxMaxBytes
  | .reset => true
  | .start => true
  | .canFrame _ => true
  | .txDone _ => true
  | .rxDoneTimeout => true
  | .rxDoneIntegrityFail => true
  | .rxDoneHeaderFail => true
  | .rxDoneTransportError => true
  | .rxService => true
  | .regRead _ => true

/-- Whether an instance takes operations of the given unit. -/
def unitMatches (p : Params) : Option Role → Bool
  | none => true
  | some r => p.role = r

/-- An operation is well-formed at an instance when it spells an operation of that unit (R77). -/
def wellFormed (p : Params) (i : Instr) : Bool :=
  unitMatches p (unitOf i) && operandFits p i

end Sys2Proof
end

