-- ==== Sys2Proof/Decode.lean ====
section
/-! DEFINITION. The event words (R70 to R74, R77, 30_encoding.md): a decoder, total on every word and
payload, that rejects by name; then the encoder, from the same tables. -/

namespace Sys2Proof

/-- Why an event spells no operation of any unit (R77). -/
inductive DecodeError where
  /-- `op` is 0x0 or 0x8 to 0xF. -/
  | reservedOp
  /-- `op` is `RESET`, `START`, `CAN_FRAME` or `RX_SERVICE` and `sub` is not 0. -/
  | reservedSub
  /-- `op` is `TX_DONE` and bits 7:5 are not 0. -/
  | reservedStatus
  /-- `op` is `RX_DONE` and `sub` is 5 to 15. -/
  | reservedOutcome
  /-- The payload does not have the shape the word selects. -/
  | payloadShape
deriving DecidableEq, Repr

/-- The decoder's answer: an operation, or a refusal by name. -/
inductive Decoded where
  | ok (i : Instr)
  | refused (why : DecodeError)
deriving DecidableEq, Repr

/-- Bits 3:0 of the event word (R70). -/
def opField (w : Byte) : BitVec 4 := w.extractLsb' 0 4

/-- Bits 7:4 of the event word (R70). -/
def subField (w : Byte) : BitVec 4 := w.extractLsb' 4 4

/-- An operation without payload. -/
def decodeBare (p : Payload) (i : Instr) : Decoded :=
  match p with
  | .empty => .ok i
  | .canFrame _ _ _ => .refused .payloadShape
  | .rxData _ _ _ => .refused .payloadShape

/-- An operation without payload whose `sub` is 0 (R77). -/
def decodeNoSub (sub : BitVec 4) (p : Payload) (i : Instr) : Decoded :=
  if sub = 0 then decodeBare p i else .refused .reservedSub

/-- The eight data bytes of a CAN frame payload, where there are eight (R66). -/
def frameData (data : List Byte) : Option (Vector Byte 8) :=
  if h : data.length = 8 then some ⟨data.toArray, by simpa using h⟩ else none

/-- `CAN_FRAME` (R66, R71). -/
def decodeCanFrame (sub : BitVec 4) (p : Payload) : Decoded :=
  if sub = 0 then
    match p with
    | .canFrame id length data =>
      match frameData data with
      | some bytes => .ok (.canFrame ⟨id, length, bytes⟩)
      | none => .refused .payloadShape
    | .empty => .refused .payloadShape
    | .rxData _ _ _ => .refused .payloadShape
  else .refused .reservedSub

/-- `TX_DONE`: bit 4 of the word is the status, bits 7:5 are 0 (R73). -/
def decodeTxDone (sub : BitVec 4) (p : Payload) : Decoded :=
  if sub.extractLsb' 1 3 = 0 then
    decodeBare p (.txDone (if sub.getLsbD 0 then .fail else .ok))
  else .refused .reservedStatus

/-- `RX_DONE`: the outcome code in `sub` (R72). -/
def decodeRxDone (sub : BitVec 4) (p : Payload) : Decoded :=
  match sub.toNat with
  | 0x0 =>
    match p with
    | .rxData bytes rssi snr => .ok (.rxDoneData bytes rssi snr)
    | .empty => .refused .payloadShape
    | .canFrame _ _ _ => .refused .payloadShape
  | 0x1 => decodeBare p .rxDoneTimeout
  | 0x2 => decodeBare p .rxDoneIntegrityFail
  | 0x3 => decodeBare p .rxDoneHeaderFail
  | 0x4 => decodeBare p .rxDoneTransportError
  | _ => .refused .reservedOutcome

/-- The operation an event word and its payload spell (R71). -/
def decode (w : Byte) (p : Payload) : Decoded :=
  match (opField w).toNat with
  | 0x1 => decodeNoSub (subField w) p .reset
  | 0x2 => decodeNoSub (subField w) p .start
  | 0x3 => decodeCanFrame (subField w) p
  | 0x4 => decodeTxDone (subField w) p
  | 0x5 => decodeRxDone (subField w) p
  | 0x6 => decodeNoSub (subField w) p .rxService
  | 0x7 => decodeBare p (.regRead (subField w))
  | _ => .refused .reservedOp

/-- The event word of an operation: `sub` in bits 7:4, `op` in bits 3:0 (R70 to R74). -/
def encodeWord : Instr → Byte
  | .reset => 0x01
  | .start => 0x02
  | .canFrame _ => 0x03
  | .txDone .ok => 0x04
  | .txDone .fail => 0x14
  | .rxDoneData _ _ _ => 0x05
  | .rxDoneTimeout => 0x15
  | .rxDoneIntegrityFail => 0x25
  | .rxDoneHeaderFail => 0x35
  | .rxDoneTransportError => 0x45
  | .rxService => 0x06
  | .regRead r => r ++ (0x7 : BitVec 4)

/-- The payload of an operation (R70, R71). -/
def encodePayload : Instr → Payload
  | .canFrame f => .canFrame f.id f.length f.data.toList
  | .rxDoneData bytes rssi snr => .rxData bytes rssi snr
  | .reset => .empty
  | .start => .empty
  | .txDone _ => .empty
  | .rxDoneTimeout => .empty
  | .rxDoneIntegrityFail => .empty
  | .rxDoneHeaderFail => .empty
  | .rxDoneTransportError => .empty
  | .rxService => .empty
  | .regRead _ => .empty

/-- The event that presents an operation (R70). -/
def encode (i : Instr) : Event := ⟨encodeWord i, encodePayload i⟩

/-- The payload of zeros that an event word selects by its `op` and `sub` alone (R70): the host gives an
operation no payload (log 2). -/
def zeroPayload (w : Byte) : Payload :=
  if w = 0x03 then .canFrame 0 0 [0, 0, 0, 0, 0, 0, 0, 0]
  else if w = 0x05 then .rxData [] .zero .zero
  else .empty

/-- The event of a word numbered as opcode_table.json numbers it, with a payload of zeros. An event word
is one byte: a number with a set bit above it is no event word (R70). -/
def eventOfTableWord (nbits w : Nat) : Option Event :=
  if w % 2 ^ nbits < 256 then
    some ⟨BitVec.ofNat 8 (w % 2 ^ nbits), zeroPayload (BitVec.ofNat 8 (w % 2 ^ nbits))⟩
  else none

/-- The operation the decoder reads from a word of opcode_table.json. -/
def decodeTableWord (nbits w : Nat) : Option Instr :=
  match eventOfTableWord nbits w with
  | none => none
  | some e =>
    match decode e.word e.payload with
    | .ok i => some i
    | .refused _ => none

end Sys2Proof
end

