-- ==== Sys2Proof/Machine/State.lean ====
section
/-! DEFINITION. The state of one unit (10_state.md), what a step emits (R75, R160, R163), the ways a step
can stop, and the state right after power-on (R37). -/

namespace Sys2Proof.Machine

open Sys2Proof

/-- Nothing in the block faults: "No event raises an exception, traps, halts the unit or leaves it in an
error state" (R161). The type is empty, so no step answers a fault (safe, log 16). -/
inductive Fault where
deriving DecidableEq, Repr

/-- Why the model has no step (R8, R77). A refused step has no next state: the run carries the refusal as
its last outcome, the `refused` mark of R8 (log 14). -/
inductive Refusal where
  /-- An operation without a meaning. Raised by no arm of `exec`. -/
  | notModelled (mnemonic : String)
  /-- The event spells no operation of any unit (R77). Raised by `step`. Safe: it is an input the
  interface cannot present. -/
  | noOperation (why : DecodeError)
  /-- The event spells an operation of the other unit (R77). Raised by the meanings of `CAN_FRAME`,
  `TX_DONE`, `RX_DONE` and `RX_SERVICE`. Safe. -/
  | otherUnit
  /-- A `DATA` payload longer than RX_MAX_BYTES, which no transport reports (R28, R72, R77; log 15). Raised
  by the meaning of `RX_DONE.DATA`. Safe. -/
  | payloadTooLong
  /-- `RX_SERVICE` outside PENDING: "at any other time it has no step (it is not ignored, it does not
  occur)" (R126; log 4). Raised by the meaning of `RX_SERVICE`. Safe. -/
  | serviceNotEnabled
deriving DecidableEq, Repr

/-- A buffer of bytes held as (offset, byte) cells. An offset that is not listed holds no value: from
power-on on, the 15 offsets of `tx_buf` are listed and no other (R44; log 8). -/
abbrev Memory := List Host.Cell

/-- The canonical form: offsets strictly rise and stay below `size`. An unlisted offset reads as no
value, so no listed cell equals what an unlisted one reads as. -/
def Memory.wfFrom : Nat → Nat → Memory → Bool
  | _, _, [] => true
  | lo, size, (a, _) :: m => decide (lo ≤ a) && decide (a < size) && Memory.wfFrom (a + 1) size m

/-- The canonical form of the transmit buffer: offsets 0 to 14 (R44). -/
def Memory.wf (m : Memory) : Bool := Memory.wfFrom 0 pktSize m

/-- The control state of an RX unit (R27). -/
inductive RxState where
  | idle
  | armed
  | pending
deriving DecidableEq, Repr

/-- What the transport reported with the last receive-complete notification (R28). -/
structure RxLatch where
  outcome : RxOutcome
  bytes : List Byte
  rssi : LQ
  snr : LQ
deriving DecidableEq, Repr

/-- The `RECORD` payload (R76). -/
structure Record where
  packetId : Word32
  canId : Word16
  len : Byte
  data : List Byte
  rssi : LQ
  snr : LQ
deriving DecidableEq, Repr

/-- An output action (R75). -/
inductive Action where
  | beginTransmit (bytes : List Byte)
  | beginReceive
  | record (r : Record)
  | regData (value : Word32)
deriving DecidableEq, Repr

/-- Why a received transfer is discarded (R163). -/
inductive Cause where
  | integrity
  | header
  | transport
  | length
  | lenField
deriving DecidableEq, Repr

/-- The outcome tag of a step (R160). -/
inductive Tag where
  | ignored
  | admitted
  | dropped
  | completed
  | latched
  | forwarded
  | idle
  | discarded (cause : Cause)
  | started
  | read
  | reset
deriving DecidableEq, Repr

/-- The result of one event, "recorded by the model with the step" (R8, R160): the event taken, its
outcome tag and its actions in order. -/
structure StepRecord where
  event : Instr
  tag : Tag
  actions : List Action
deriving DecidableEq, Repr

/-- One unit (R2). `params` is its configuration (log 5); `txStarted` to `txBuf` are the TX unit's state
(R21), `rxStarted` to `rxBadCount` the RX unit's (R26), the other unit's elements standing unused at
their power-on values (log 12); `inbox`, `trace` and `draws` are the model's own (log 1, log 13,
log 9). -/
structure State where
  /-- ROLE, SEQ_INIT and RX_MAX_BYTES (R5, R38). -/
  params : Params
  /-- `tx_started` (R21). -/
  txStarted : Bool
  /-- `channel_free` (R22). -/
  channelFree : Bool
  /-- `seq` (R24). -/
  seq : Word32
  /-- `tx_buf` (R25). -/
  txBuf : Memory
  /-- `rx_started` (R26). -/
  rxStarted : Bool
  /-- `rx_state` (R27). -/
  rxState : RxState
  /-- `rx_latch` (R28). -/
  rxLatch : RxLatch
  /-- `rx_bad_count` (R29). -/
  rxBadCount : Word32
  /-- The events presented and not yet taken, oldest first (R8, R50). -/
  inbox : List Event
  /-- The results of the events taken, newest first (R8, R160). -/
  trace : List StepRecord
  /-- How many times a value the spec leaves unspecified was drawn. -/
  draws : Nat
deriving DecidableEq, Repr

/-- The latch at power-on: "unspecified" (R37). DESIGN CHOICE (unsafe, log 10): outcome code 0, no bytes,
one value of LQ. -/
def RxLatch.powerOn : RxLatch := ⟨.data, [], .zero, .zero⟩

/-- The 15 bytes of `tx_buf` after the reset of a given draw: any value (R25, R37, U12; log 8, log 9). -/
def freeTxBuf (draw : Nat) : Memory :=
  (List.range pktSize).map fun offset => (offset, Config.freeTxByte draw offset)

/-- A unit of given parameters right after power-on, which is a reset (R37, R144, R200): it has drawn the
free values of draw 0. -/
def State.powerOn (p : Params) : State where
  params := p
  txStarted := false
  channelFree := true
  seq := p.seqInit
  txBuf := freeTxBuf 0
  rxStarted := false
  rxState := .idle
  rxLatch := .powerOn
  rxBadCount := 0
  inbox := []
  trace := []
  draws := 1

/-- The machine right after reset (R37): an instance with open SEQ_INIT and RX_MAX_BYTES (log 6).
DESIGN CHOICE (unsafe, log 5): a TX unit; `State.powerOn` gives either. -/
def State.reset : State := State.powerOn ⟨.tx, Config.seqInit, Config.rxMaxBytes⟩

end Sys2Proof.Machine
end

