-- ==== Sys2Proof/Machine/Operands.lean ====
section
/-! DEFINITION. Operand and field access: MemRead and MemWrite (R7, R40), the fields of the wire packet
(R60, R65, R102, R103), and the codes of actions, outcomes and causes (R75, R160, R163). -/

namespace Sys2Proof.Machine

open Sys2Proof

/-- `MemRead(buf, off, n)` (R7): `n` bytes from offset `off`, the byte at the lowest offset least
significant (R40). No rule reads past the end of a buffer; a byte there counts 0 (log 21). -/
def memRead (buf : List Byte) (off : Nat) : Nat → Nat
  | 0 => 0
  | n + 1 => (buf.getD off 0).toNat + 256 * memRead buf (off + 1) n

/-- `MemWrite(buf, off, n, v)` (R7): `n` bytes of `v` from offset `off`, the least significant byte at the
lowest offset (R40). -/
def memWrite (buf : List Byte) (off : Nat) : Nat → Nat → List Byte
  | 0, _ => buf
  | n + 1, v => memWrite (buf.set off (BitVec.ofNat 8 v)) (off + 1) n (v / 256)

/-- One `MemWrite` of width 1 for each byte of a sequence, at consecutive offsets. -/
def memWriteEach (buf : List Byte) (off : Nat) : List Byte → List Byte
  | [] => buf
  | b :: bs => memWriteEach (memWrite buf off 1 b.toNat) (off + 1) bs

/-- `canId = id[15:0]` (R102). -/
def canIdOf (id : BitVec 29) : Word16 := id.extractLsb' 0 16

/-- `len = min(length, 8)` (R103). -/
def lenOf (length : BitVec 4) : Byte := BitVec.ofNat 8 (min length.toNat maxLen)

/-- The outcome with a given index, in the order of R72's codes. -/
def rxOutcomeOf (code : Fin 5) : RxOutcome :=
  match code with
  | 0 => .data
  | 1 => .timeout
  | 2 => .integrityFail
  | 3 => .headerFail
  | 4 => .transportError

/-- The 8-bit code of an action (R75). -/
def actionCode : Action → Byte
  | .beginTransmit _ => 0x81
  | .beginReceive => 0x82
  | .record _ => 0x83
  | .regData _ => 0x84

/-- The code of an outcome tag (R160). -/
def tagCode : Tag → Nat
  | .ignored => 0
  | .admitted => 1
  | .dropped => 2
  | .completed => 3
  | .latched => 4
  | .forwarded => 5
  | .idle => 6
  | .discarded _ => 7
  | .started => 8
  | .read => 9
  | .reset => 10

/-- The code of a discard cause (R163). -/
def causeCode : Cause → Nat
  | .integrity => 1
  | .header => 2
  | .transport => 3
  | .length => 4
  | .lenField => 5

end Sys2Proof.Machine
end

