-- ==== Sys2Proof/Machine/Framer.lean ====
section
/-! DEFINITION. The Frame Encoder (40_framer.md): one CAN frame and one sequence number to the 15 bytes of
the wire packet (R60). -/

namespace Sys2Proof.Machine

open Sys2Proof

/-- `Serialize(pid, frame)` (R100 to R105). All 15 bytes are written, so what the buffer held before does
not matter; the padding is copied, never zeroed (R104). -/
def serialize (pid : Word32) (f : CanFrame) : List Byte :=
  let b := List.replicate pktSize (0 : Byte)
  let b := memWrite b 0 4 pid.toNat
  let b := memWrite b 4 2 (canIdOf f.id).toNat
  let b := memWrite b 6 1 (lenOf f.length).toNat
  memWriteEach b 7 f.data.toList

end Sys2Proof.Machine
end

