-- ==== Sys2Proof/Machine/Ops.lean ====
section
/-! DEFINITION. The operations the meanings share: the transmit buffer (R44), what each event writes
(R21, R26), the free values (R25, R28), and how a step ends (R7, R8). The block takes no exceptions
(R161), so there is no exception entry and no return from one (R167). -/

namespace Sys2Proof.Machine

open Sys2Proof

/-- What one step answers. -/
abbrev Result := Host.Outcome State Fault Refusal

/-- The byte at an offset; none where nothing has been written (log 8). -/
def Memory.read : Memory → Nat → Option Byte
  | [], _ => none
  | (k, b) :: m, a => if a = k then some b else Memory.read m a

/-- Write one byte, keeping the offsets strictly rising. -/
def Memory.write : Memory → Nat → Byte → Memory
  | [], a, b => [(a, b)]
  | (k, c) :: m, a, b =>
    if a < k then (a, b) :: (k, c) :: m
    else if a = k then (a, b) :: m
    else (k, c) :: Memory.write m a b

/-- Write a byte sequence at consecutive offsets. -/
def Memory.writeBytes : Memory → Nat → List Byte → Memory
  | m, _, [] => m
  | m, a, b :: bs => Memory.writeBytes (Memory.write m a b) (a + 1) bs

/-- Take the oldest presented event off the inbox, leaving `rest` (R8). -/
def State.consume (s : State) (rest : List Event) : State := { s with inbox := rest }

/-- `tx_started <- true` (R140). -/
def State.startTx (s : State) : State := { s with txStarted := true }

/-- `rx_started <- true; rx_state <- ARMED` (R140). -/
def State.startRx (s : State) : State := { s with rxStarted := true, rxState := .armed }

/-- The state written by an admission (R111): the channel taken, one sequence number consumed, the packet
in `tx_buf`. -/
def State.admitFrame (s : State) (packet : List Byte) : State :=
  { s with channelFree := false, seq := s.seq + 1, txBuf := s.txBuf.writeBytes 0 packet }

/-- `channel_free <- true` (R115). -/
def State.freeChannel (s : State) : State := { s with channelFree := true }

/-- `rx_latch <- l; rx_state <- PENDING` (R121). -/
def State.latch (s : State) (l : RxLatch) : State := { s with rxLatch := l, rxState := .pending }

/-- `rx_state <- ARMED` (R135). -/
def State.rearm (s : State) : State := { s with rxState := .armed }

/-- `rx_bad_count <- (rx_bad_count + 1) mod 2^32` (R126 `Discard`, R29). -/
def State.countBad (s : State) : State := { s with rxBadCount := s.rxBadCount + 1 }

/-- A free value was used. -/
def State.draw (s : State) : State := { s with draws := s.draws + 1 }

/-- A latch with a given outcome whose other fields are free: "unspecified and no rule reads them"
(R122; log 11). The bytes keep the bound of R28. -/
def freeLatch (s : State) (outcome : RxOutcome) : RxLatch :=
  ⟨outcome, (Config.freeBytes s.draws).take s.params.rxMaxBytes, Config.freeRssi s.draws,
    Config.freeSnr s.draws⟩

/-- The TX unit's state at its reset values (R37, R144). -/
def State.resetTx (s : State) : State :=
  { s with
    txStarted := false
    channelFree := true
    seq := s.params.seqInit
    txBuf := freeTxBuf s.draws
    draws := s.draws + 1 }

/-- The RX unit's state at its reset values (R37, R144). -/
def State.resetRx (s : State) : State :=
  { s with
    rxStarted := false
    rxState := .idle
    rxBadCount := 0
    rxLatch := freeLatch s (rxOutcomeOf (Config.freeOutcome s.draws))
    draws := s.draws + 1 }

/-- Record the result of an event (R8, R160). -/
def State.note (s : State) (i : Instr) (tag : Tag) (actions : List Action) : State :=
  { s with trace := ⟨i, tag, actions⟩ :: s.trace }

/-- End a step with its outcome tag and its actions (R7 `emit`, `outcome`). -/
def State.conclude (s : State) (i : Instr) (tag : Tag) (actions : List Action) : Result :=
  .next (s.note i tag actions)

/-- `ignore`: no state change, no action, outcome `IGNORED` (R7). -/
def State.ignore (s : State) (i : Instr) : Result := s.conclude i .ignored []

/-- An operation of one unit only: refused at the other (R77). -/
def State.atUnit (s : State) (r : Role) (k : Result) : Result :=
  if s.params.role = r then k else .refused .otherUnit

end Sys2Proof.Machine
end

