-- ==== Sys2Proof/Machine/Admission.lean ====
section
/-! DEFINITION. The Transmit Admission Controller (41_admission.md): `CAN_FRAME` and `TX_DONE`. -/

namespace Sys2Proof.Machine

open Sys2Proof

/-- The TX unit's test of `channel_free` (R110): drop the frame when busy (R112), else take it (R111). -/
def admitOrDrop (f : CanFrame) (s : State) : Result :=
  if s.channelFree then
    (s.admitFrame (serialize s.seq f)).conclude (.canFrame f) .admitted
      [.beginTransmit (serialize s.seq f)]
  else s.conclude (.canFrame f) .dropped []

/-- `CAN_FRAME` (R110 to R114): ignored before `START` (R113). -/
def execCanFrame (f : CanFrame) (s : State) : Result :=
  s.atUnit .tx (if s.txStarted then admitOrDrop f s else s.ignore (.canFrame f))

/-- `TX_DONE` (R115, R116): either status frees the channel. -/
def execTxDone (status : TxStatus) (s : State) : Result :=
  s.atUnit .tx
    (if s.txStarted then s.freeChannel.conclude (.txDone status) .completed []
     else s.ignore (.txDone status))

end Sys2Proof.Machine
end

