-- ==== Sys2Proof/Machine/Flags.lean ====
section
/-! DEFINITION. The status flags (R31) and the read-only register view computed from them (R33 to R36,
10_state.md). The block has no condition codes and no arithmetic flags. -/

namespace Sys2Proof.Machine

open Sys2Proof

/-- `rx_armed` means `rx_state = ARMED` (R27). -/
def rxArmed (s : State) : Bool := s.rxState = .armed

/-- `rx_pending` means `rx_state = PENDING` (R27). -/
def rxPending (s : State) : Bool := s.rxState = .pending

/-- The occupancy of the one-slot admission queue (R23). -/
def slotOccupancy (s : State) : Nat := if s.channelFree then 0 else 1

/-- `STATUS` bit 0, `CHANNEL_FREE` (R33). -/
def statusChannelFree (s : State) : Bool :=
  match s.params.role with
  | .tx => s.channelFree
  | .rx => false

/-- `STATUS` bit 1, `STARTED` (R33). -/
def statusStarted (s : State) : Bool :=
  match s.params.role with
  | .tx => s.txStarted
  | .rx => s.rxStarted

/-- `STATUS` bit 2, `RX_ARMED` (R33). -/
def statusRxArmed (s : State) : Bool :=
  match s.params.role with
  | .tx => false
  | .rx => rxArmed s

/-- `STATUS` bit 3, `RX_PENDING` (R33). -/
def statusRxPending (s : State) : Bool :=
  match s.params.role with
  | .tx => false
  | .rx => rxPending s

/-- Register 0, `STATUS`, bits 31:4 reserved and 0 (R33). -/
def statusReg (s : State) : Word32 :=
  (0 : BitVec 28) ++ BitVec.ofBool (statusRxPending s) ++ BitVec.ofBool (statusRxArmed s)
    ++ BitVec.ofBool (statusStarted s) ++ BitVec.ofBool (statusChannelFree s)

/-- Register 1, `SEQ_NEXT` (R34). -/
def seqNextReg (s : State) : Word32 :=
  match s.params.role with
  | .tx => s.seq
  | .rx => 0

/-- Register 2, `RX_BAD_COUNT` (R35). -/
def rxBadCountReg (s : State) : Word32 :=
  match s.params.role with
  | .tx => 0
  | .rx => s.rxBadCount

/-- `RegValue(r)` (R142): registers 3 to 15 are reserved and read as 0 (R36). -/
def regValue (s : State) (r : BitVec 4) : Word32 :=
  match r.toNat with
  | 0 => statusReg s
  | 1 => seqNextReg s
  | 2 => rxBadCountReg s
  | _ => 0

end Sys2Proof.Machine
end

