-- ==== Sys2Proof/Machine/Control.lean ====
section
/-! DEFINITION. The control operations of both units (43_control.md): `START`, `REG_READ`, `RESET`. -/

namespace Sys2Proof.Machine

open Sys2Proof

/-- `START` at a TX unit (R140): a second one is ignored (R141). -/
def startTxUnit (s : State) : Result :=
  if s.txStarted then s.ignore .start else s.startTx.conclude .start .started []

/-- `START` at an RX unit (R140): it issues the first receive; a second one is ignored (R141). -/
def startRxUnit (s : State) : Result :=
  if s.rxStarted then s.ignore .start
  else s.startRx.conclude .start .started [.beginReceive]

/-- `START` (R140, R141). -/
def execStart (s : State) : Result :=
  match s.params.role with
  | .tx => startTxUnit s
  | .rx => startRxUnit s

/-- `REG_READ r` (R142, R143): it writes no state, started or not. -/
def execRegRead (r : BitVec 4) (s : State) : Result :=
  s.conclude (.regRead r) .read [.regData (regValue s r)]

/-- `RESET` (R144, R145): accepted in every state, no action. -/
def execReset (s : State) : Result :=
  match s.params.role with
  | .tx => s.resetTx.conclude .reset .reset []
  | .rx => s.resetRx.conclude .reset .reset []

end Sys2Proof.Machine
end

