-- ==== Sys2Proof/Machine/Deframer.lean ====
section
/-! DEFINITION. The Frame Decoder and Validator (42_deframer.md): the `RX_DONE` notifications and
`RX_SERVICE`. -/

namespace Sys2Proof.Machine

open Sys2Proof

/-- A decoded packet (R60, R133): the four fields, all eight data bytes. -/
structure Packet where
  packetId : Word32
  canId : Word16
  len : Byte
  data : List Byte
deriving DecidableEq, Repr

/-- `Deserialize(b)` (R133, R65). -/
def deserialize (b : List Byte) : Packet where
  packetId := BitVec.ofNat 32 (memRead b 0 4)
  canId := BitVec.ofNat 16 (memRead b 4 2)
  len := BitVec.ofNat 8 (memRead b 6 1)
  data := (List.range 8).map fun i => BitVec.ofNat 8 (memRead b (7 + i) 1)

/-- The `RECORD` of a packet: only `data[0..len)`, with the latched link quality (R134, R76). -/
def recordOf (p : Packet) (rssi snr : LQ) : Record :=
  ⟨p.packetId, p.canId, p.len, p.data.take p.len.toNat, rssi, snr⟩

/-- What `RX_SERVICE` finds in the latch. -/
inductive Verdict where
  /-- A timeout (R127). -/
  | quiet
  /-- A transfer to discard (R128 to R132). -/
  | discard (cause : Cause)
  /-- A valid packet (R134). -/
  | forward (r : Record)
deriving DecidableEq, Repr

/-- The judgement of a transfer the transport passed: byte count, then the len byte (R131, R132, R136). -/
def judgeData (bytes : List Byte) (rssi snr : LQ) : Verdict :=
  if bytes.length = pktSize then
    if memRead bytes 6 1 ≤ maxLen then .forward (recordOf (deserialize bytes) rssi snr)
    else .discard .lenField
  else .discard .length

/-- The case analysis of `RX_SERVICE` on the latched outcome (R126, R136). -/
def judge (l : RxLatch) : Verdict :=
  match l.outcome with
  | .timeout => .quiet
  | .integrityFail => .discard .integrity
  | .headerFail => .discard .header
  | .transportError => .discard .transport
  | .data => judgeData l.bytes l.rssi l.snr

/-- The outcome tag of a verdict (R160). -/
def verdictTag : Verdict → Tag
  | .quiet => .idle
  | .discard cause => .discarded cause
  | .forward _ => .forwarded

/-- The records a verdict emits: at most one (R126). -/
def verdictActions : Verdict → List Action
  | .quiet => []
  | .discard _ => []
  | .forward r => [.record r]

/-- The count of discarded transfers after a verdict (R126 `Discard`, R127, R134). -/
def State.countVerdict (s : State) : Verdict → State
  | .quiet => s
  | .discard _ => s.countBad
  | .forward _ => s

/-- The body of `RX_SERVICE` (R126): the verdict, then the re-arm whatever the outcome (R135). -/
def service (s : State) : Result :=
  (s.countVerdict (judge s.rxLatch)).rearm.conclude .rxService (verdictTag (judge s.rxLatch))
    (verdictActions (judge s.rxLatch) ++ [.beginReceive])

/-- The body of `RX_DONE` (R121): latch the report and become PENDING when a receive is outstanding, else
ignore it (R122). -/
def latchReport (i : Instr) (s : State) (latched : State) : Result :=
  if s.rxStarted && decide (s.rxState = .armed) then latched.conclude i .latched []
  else s.ignore i

/-- `RX_DONE` without payload: the latch takes the outcome, its other fields are free (R122; log 11). -/
def latchOutcome (i : Instr) (outcome : RxOutcome) (s : State) : Result :=
  s.atUnit .rx (latchReport i s (s.latch (freeLatch s outcome)).draw)

/-- `RX_DONE` with outcome `DATA` (R121 to R123): any byte count is latched as it is. A payload above
RX_MAX_BYTES is none the transport can report (R77; log 15). -/
def execRxDoneData (bytes : List Byte) (rssi snr : LQ) (s : State) : Result :=
  s.atUnit .rx
    (if fits bytes s.params.rxMaxBytes then
      latchReport (.rxDoneData bytes rssi snr) s (s.latch ⟨.data, bytes, rssi, snr⟩)
     else .refused .payloadTooLong)

/-- `RX_DONE` with outcome `TIMEOUT` (R121, R122). -/
def execRxDoneTimeout (s : State) : Result := latchOutcome .rxDoneTimeout .timeout s

/-- `RX_DONE` with outcome `INTEGRITY_FAIL` (R121, R122). -/
def execRxDoneIntegrityFail (s : State) : Result :=
  latchOutcome .rxDoneIntegrityFail .integrityFail s

/-- `RX_DONE` with outcome `HEADER_FAIL` (R121, R122). -/
def execRxDoneHeaderFail (s : State) : Result := latchOutcome .rxDoneHeaderFail .headerFail s

/-- `RX_DONE` with outcome `TRANSPORT_ERROR` (R121, R122). -/
def execRxDoneTransportError (s : State) : Result :=
  latchOutcome .rxDoneTransportError .transportError s

/-- `RX_SERVICE` (R126 to R138): enabled only while PENDING; otherwise it has no step (log 4). -/
def execRxService (s : State) : Result :=
  s.atUnit .rx (if s.rxState = .pending then service s else .refused .serviceNotEnabled)

/-- The logical CAN frame an RX unit reconstructs (R137). -/
structure LogicalFrame where
  identifier : BitVec 29
  length : Byte
  payload : List Byte
deriving DecidableEq, Repr

/-- The reconstruction of a forwarded record (R137): bits 28:16 of the identifier are not restored. -/
def reconstruct (r : Record) : LogicalFrame := ⟨r.canId.setWidth 29, r.len, r.data⟩

end Sys2Proof.Machine
end

