-- ==== Sys2Proof/Machine/Dispatch.lean ====
section
/-! DEFINITION. One arm per event operation (R71): each calls its meaning. -/

namespace Sys2Proof.Machine

open Sys2Proof

def exec (i : Instr) (s : State) : Host.Outcome State Fault Refusal :=
  match i with
  | .reset => Sys2Proof.Machine.execReset s
  | .start => Sys2Proof.Machine.execStart s
  | .canFrame f => Sys2Proof.Machine.execCanFrame f s
  | .txDone status => Sys2Proof.Machine.execTxDone status s
  | .rxDoneData bytes rssi snr => Sys2Proof.Machine.execRxDoneData bytes rssi snr s
  | .rxDoneTimeout => Sys2Proof.Machine.execRxDoneTimeout s
  | .rxDoneIntegrityFail => Sys2Proof.Machine.execRxDoneIntegrityFail s
  | .rxDoneHeaderFail => Sys2Proof.Machine.execRxDoneHeaderFail s
  | .rxDoneTransportError => Sys2Proof.Machine.execRxDoneTransportError s
  | .rxService => Sys2Proof.Machine.execRxService s
  | .regRead r => Sys2Proof.Machine.execRegRead r s

end Sys2Proof.Machine
end

