-- ==== Sys2Proof/Machine/Step.lean ====
section
/-! DEFINITION. One step of a unit (R8): the oldest presented event, or, when none is presented, the
unit's own RX_SERVICE where it is enabled; else the unit is idle (R185). -/

namespace Sys2Proof.Machine

open Sys2Proof

/-- Take one presented event: decode it and run it, or refuse it by name (R8, R77). -/
def takeEvent (e : Event) (s : State) : Result :=
  match decode e.word e.payload with
  | .ok i => exec i s
  | .refused why => .refused (.noOperation why)

/-- No event is presented: an RX unit in PENDING takes RX_SERVICE "on its own" (R126, R212), any other
unit is idle, "and idling changes no state" (R185). DESIGN CHOICE (unsafe for progress claims,
log 3). -/
def takeOwn (s : State) : Result :=
  match s.params.role, s.rxState with
  | .rx, .pending => exec .rxService s
  | _, _ => .next s

/-- One step (R8, R49). -/
def step (s : State) : Host.Outcome State Fault Refusal :=
  match s.inbox with
  | [] => takeOwn s
  | e :: rest => takeEvent e (s.consume rest)

/-- The role at which a word's operation is accepted: an operation of one unit selects that unit (R71;
log 2). -/
def roleOfWord (w : Byte) (r : Role) : Role :=
  match (opField w).toNat with
  | 0x3 => .tx
  | 0x4 => .tx
  | 0x5 => .rx
  | 0x6 => .rx
  | _ => r

/-- The control state at which a word's operation is taken: RX_SERVICE, which is internal, occurs only in
PENDING (R126; log 2). -/
def rxStateOfWord (w : Byte) (r : RxState) : RxState := if w = 0x06 then .pending else r

/-- Present the event of a table word, with a payload of zeros, as the next one the unit takes (log 2). -/
def State.withFetchWord (s : State) (nbits w : Nat) : State :=
  match eventOfTableWord nbits w with
  | none => s
  | some e =>
    { s with
      inbox := e :: s.inbox
      params := { s.params with role := roleOfWord e.word s.params.role }
      rxState := rxStateOfWord e.word s.rxState }

end Sys2Proof.Machine
end

