-- ==== Sys2Proof/Machine/Sink.lean ====
section
/-! DEFINITION. The Telemetry Sink's line for a record (R178, 60_exceptions.md). The sink is outside the
block (R4); its contract is recorded so that an end-to-end observation can be stated (log 17). -/

namespace Sys2Proof.Machine

open Sys2Proof

/-- The digits of a number in a base, most significant first, at most `fuel` of them. -/
def digitsOf (base : Nat) : Nat → Nat → List Nat
  | 0, _ => []
  | fuel + 1, n => if n < base then [n] else digitsOf base fuel (n / base) ++ [n % base]

/-- The character of one digit. -/
def digitChar (upper : Bool) (d : Nat) : Char :=
  if d < 10 then Char.ofNat (48 + d) else Char.ofNat ((if upper then 55 else 87) + d)

/-- A number below 2^32 in decimal. -/
def decimal (n : Nat) : List Char := (digitsOf 10 10 n).map (digitChar true)

/-- A number below 2^32 in hexadecimal, without leading zeros. -/
def hexPlain (upper : Bool) (n : Nat) : List Char := (digitsOf 16 8 n).map (digitChar upper)

/-- A byte as "two-digit, zero-padded" hexadecimal. -/
def hexByte (upper : Bool) (b : Byte) : List Char :=
  [digitChar upper (b.toNat / 16), digitChar upper (b.toNat % 16)]

/-- `packetId,canId_hex,byte0_hex,...,byteN_hex` (R178): packetId in decimal (D34). -/
def sinkFields (upper : Bool) (r : Record) : List Char :=
  decimal r.packetId.toNat ++ [','] ++ hexPlain upper r.canId.toNat
    ++ r.data.flatMap fun b => ',' :: hexByte upper b

/-- The sink's line: the fields, the link-quality suffix in an open format, a newline (R178, U4, U5). -/
def sinkLine (r : Record) : List Char :=
  sinkFields Config.sinkUppercase r ++ Config.lqFormat r.rssi r.snr ++ [Char.ofNat 10]

end Sys2Proof.Machine
end

