-- ==== Sys2Proof/Machine/Transport.lean ====
section
/-! DEFINITION. The unit's collaborator, the transport (R170 to R176, 60_exceptions.md), as the records of
a trace show it, and the link between two transports (R174). The unit enforces none of it (R180; log 18). -/

namespace Sys2Proof.Machine

open Sys2Proof

/-- A transport's outstanding operations (R170): the bytes of an outstanding transmit, and whether a
receive is outstanding. -/
structure Transport where
  sending : Option (List Byte)
  listening : Bool
deriving DecidableEq, Repr

/-- Nothing outstanding: a transport reset together with its unit (R175). -/
def Transport.quiet : Transport := ⟨none, false⟩

/-- The transport takes an action of its unit: `beginTransmit(bytes)` or `beginReceive()` (R170). -/
def Transport.hear (t : Transport) : Action → Transport
  | .beginTransmit bytes => { t with sending := some bytes }
  | .beginReceive => { t with listening := true }
  | .record _ => t
  | .regData _ => t

/-- The transport after its own notification, or after a reset of its unit (R171, R172, R175). -/
def Transport.answered (t : Transport) : Instr → Transport
  | .txDone _ => { t with sending := none }
  | .rxDoneData _ _ _ => { t with listening := false }
  | .rxDoneTimeout => { t with listening := false }
  | .rxDoneIntegrityFail => { t with listening := false }
  | .rxDoneHeaderFail => { t with listening := false }
  | .rxDoneTransportError => { t with listening := false }
  | .reset => .quiet
  | .start => t
  | .canFrame _ => t
  | .rxService => t
  | .regRead _ => t

/-- Whether the contract allows an event now: no `TX_DONE` without an outstanding transmit (R171), no
`RX_DONE` without an outstanding receive (R172). -/
def Transport.permits (t : Transport) : Instr → Bool
  | .txDone _ => t.sending.isSome
  | .rxDoneData _ _ _ => t.listening
  | .rxDoneTimeout => t.listening
  | .rxDoneIntegrityFail => t.listening
  | .rxDoneHeaderFail => t.listening
  | .rxDoneTransportError => t.listening
  | .reset => true
  | .start => true
  | .canFrame _ => true
  | .rxService => true
  | .regRead _ => true

/-- The transport after one step of its unit. -/
def Transport.follow (t : Transport) (r : StepRecord) : Transport :=
  r.actions.foldl Transport.hear (t.answered r.event)

/-- The transport after a whole trace (newest record first). -/
def transportOf : List StepRecord → Transport
  | [] => .quiet
  | r :: older => (transportOf older).follow r

/-- Whether every event of a trace kept the transport's contract (R171, R172). -/
def contractKept : List StepRecord → Bool
  | [] => true
  | r :: older => contractKept older && (transportOf older).permits r.event

/-- Whether a transport has neither a transmit nor a receive outstanding. -/
def Transport.isIdle (t : Transport) : Bool := t.sending.isNone && !t.listening

/-- Whether an action starts no operation while another is outstanding (R176). -/
def Transport.accepts (t : Transport) : Action → Bool
  | .beginTransmit _ => t.isIdle
  | .beginReceive => t.isIdle
  | .record _ => true
  | .regData _ => true

/-- Whether each action of a step does so, in order (R53). -/
def Transport.acceptsAll (t : Transport) : List Action → Bool
  | [] => true
  | a :: rest => t.accepts a && (t.hear a).acceptsAll rest

/-- Whether no step of a trace began a transmit or a receive while one was outstanding: "exactly one
transmit or one receive may be outstanding at a time per radio instance" (R176). -/
def oneAtATime : List StepRecord → Bool
  | [] => true
  | r :: older =>
    oneAtATime older && ((transportOf older).answered r.event).acceptsAll r.actions

/-- A failure the receiving transport may report (R72, R174). -/
inductive LinkFailure where
  | integrity
  | header
  | transport
deriving DecidableEq, Repr

/-- What the link may do with one transmitted packet (R174). -/
inductive LinkFate where
  /-- Delivered with the same bytes. -/
  | intact (rssi snr : LQ)
  /-- Delivered with other bytes: corruption the transport's check did not catch. -/
  | altered (bytes : List Byte) (rssi snr : LQ)
  /-- Reported as failed. -/
  | failed (how : LinkFailure)
  /-- Lost. -/
  | lost
deriving DecidableEq, Repr

/-- The notification a reported failure becomes (R72, R173). -/
def failureNotice : LinkFailure → Instr
  | .integrity => .rxDoneIntegrityFail
  | .header => .rxDoneHeaderFail
  | .transport => .rxDoneTransportError

/-- The notification a receiving transport makes of one transmitted packet; none when the packet is lost,
"always, when the receiver is not armed" (R173, R174, R206). -/
def arrival (listening : Bool) (sent : List Byte) (fate : LinkFate) : Option Instr :=
  if listening then
    match fate with
    | .intact rssi snr => some (.rxDoneData sent rssi snr)
    | .altered bytes rssi snr => some (.rxDoneData bytes rssi snr)
    | .failed how => some (failureNotice how)
    | .lost => none
  else none

end Sys2Proof.Machine
end

