-- ==== Sys2Proof/Machine/System.lean ====
section
/-! DEFINITION. A system built from the block (R181, 60_exceptions.md): a TX unit on the car, an RX unit on
the ground, the link between their transports. The units share no state (R2); which event comes next
is the environment's choice (R50; log 19). -/

namespace Sys2Proof.Machine

open Sys2Proof

/-- The two units, the packets on the air, and the notification the ground transport has ready (R170,
R181). -/
structure System where
  car : State
  ground : State
  /-- The packets handed to the car's transport whose fate the link has not decided, oldest first
  (R174). -/
  flight : List (List Byte)
  /-- The outcome of the ground's outstanding receive, until it is reported (R172, R173). -/
  arrived : Option Instr
  /-- Whether the packet of the car's last transmit has reached the ground's transport as `DATA` (R116). -/
  delivered : Bool
deriving DecidableEq, Repr

/-- One event of a system (R181). -/
inductive SystemEvent where
  | atCar (i : Instr)
  | atGround (i : Instr)
  | link (fate : LinkFate)
deriving DecidableEq, Repr

/-- The packets on the air after a step of the car's unit: one more after a transmit; after a failed
transmit "its packet is lost" (R116), which is the last one unless the link has decided its fate. A
RESET takes none away: what was on the air may still be lost or delivered. -/
def flightAfter (flight : List (List Byte)) : List StepRecord → List (List Byte)
  | ⟨_, _, [.beginTransmit bytes]⟩ :: _ => flight ++ [bytes]
  | ⟨.txDone .fail, _, _⟩ :: _ => flight.dropLast
  | _ => flight

/-- Whether the packet of the last transmit has reached the ground, after a step of the car's unit. -/
def deliveredAfter (delivered : Bool) : List StepRecord → Bool
  | ⟨_, _, [.beginTransmit _]⟩ :: _ => false
  | _ => delivered

/-- Whether the car's transport, or another collaborator, may present an event: a completion only of an
outstanding transmit (R171), and a hardware failure only of one whose packet is lost (R116). -/
def carMay (sys : System) (i : Instr) : Bool :=
  (transportOf sys.car.trace).permits i && !(sys.delivered && decide (i = .txDone .fail))

/-- Whether the ground's transport may report an outcome without a packet (R172): it listens, and has no
other outcome to report. -/
def mayReport (sys : System) (i : Instr) : Bool :=
  (transportOf sys.ground.trace).listening && (sys.arrived.isNone || decide (sys.arrived = some i))

/-- Whether the ground's transport may present an event (R172, R173): a timeout or a failure when nothing
else is to be reported, a `DATA` outcome only when it reports the arrival. -/
def groundMay (sys : System) (i : Instr) : Bool :=
  match i with
  | .rxDoneTimeout => mayReport sys i
  | .rxDoneData _ _ _ => decide (sys.arrived = some i)
  | .rxDoneIntegrityFail => mayReport sys i
  | .rxDoneHeaderFail => mayReport sys i
  | .rxDoneTransportError => mayReport sys i
  | .reset => true
  | .start => true
  | .canFrame _ => true
  | .txDone _ => true
  | .rxService => true
  | .regRead _ => true

/-- The arrival not yet reported after an event of the ground's unit (R172, R175). -/
def arrivedAfter (arrived : Option Instr) : Instr → Option Instr
  | .rxDoneData _ _ _ => none
  | .rxDoneTimeout => none
  | .rxDoneIntegrityFail => none
  | .rxDoneHeaderFail => none
  | .rxDoneTransportError => none
  | .reset => none
  | .start => arrived
  | .canFrame _ => arrived
  | .txDone _ => arrived
  | .rxService => arrived
  | .regRead _ => arrived

/-- An event at the car's unit, which its transport's contract allows (R171, R116). -/
def System.carStep (sys : System) (i : Instr) : Option System :=
  if carMay sys i then
    match exec i sys.car with
    | .next c =>
      some { sys with
        car := c
        flight := flightAfter sys.flight c.trace
        delivered := deliveredAfter sys.delivered c.trace }
    | .fault _ => none
    | .refused _ => none
  else none

/-- An event at the ground's unit, which its transport's contract allows (R172). -/
def System.groundStep (sys : System) (i : Instr) : Option System :=
  if groundMay sys i then
    match exec i sys.ground with
    | .next g => some { sys with ground := g, arrived := arrivedAfter sys.arrived i }
    | .fault _ => none
    | .refused _ => none
  else none

/-- What the ground's transport makes of a packet: it arrives only at a transport that listens and has
nothing to report yet, since "there is no receive queue in the transport" (R120, R206). DESIGN CHOICE
(unsafe, log 23): a transfer longer than RX_MAX_BYTES, which the transport cannot report (R5, R28), is not
received, and the receive stays outstanding. -/
def System.receives (sys : System) (bytes : List Byte) (fate : LinkFate) : Option Instr :=
  if sys.arrived.isNone then
    (arrival (transportOf sys.ground.trace).listening bytes fate).filter
      (operandFits sys.ground.params)
  else none

/-- Whether an arrival is a transfer with its bytes. -/
def isData : Option Instr → Bool
  | some (.rxDoneData _ _ _) => true
  | _ => false

/-- The link decides the fate of the oldest packet on the air (R174). When no later one is on the air, it
is the packet of the last transmit. -/
def System.linkStep (sys : System) (fate : LinkFate) : Option System :=
  match sys.flight with
  | [] => none
  | bytes :: later =>
    some { sys with
      flight := later
      arrived := (sys.receives bytes fate).or sys.arrived
      delivered := sys.delivered || (later.isEmpty && isData (sys.receives bytes fate)) }

/-- One event of the system; none where the unit or the environment has no such step. -/
def System.step (sys : System) : SystemEvent → Option System
  | .atCar i => sys.carStep i
  | .atGround i => sys.groundStep i
  | .link fate => sys.linkStep fate

/-- A whole sequence of events. -/
def System.run (sys : System) : List SystemEvent → Option System
  | [] => some sys
  | e :: es =>
    match sys.step e with
    | none => none
    | some next => next.run es

/-- Both units right after power-on, the link empty (R200, R202). -/
def System.powerOn (seqInit : Word32) (rxMaxBytes : Nat) : System :=
  ⟨State.powerOn ⟨.tx, seqInit, rxMaxBytes⟩, State.powerOn ⟨.rx, seqInit, rxMaxBytes⟩, [], none, false⟩

end Sys2Proof.Machine
end

