-- ==== Sys2Proof/Safety.lean ====
section
/-! DEFINITION. What claims are stated in: the views of a trace, runs, the invariants of a unit, and the
order across the link. -/

namespace Sys2Proof.Machine

open Sys2Proof

/-- The bytes an action hands to the transport for transmission, if any (R75). -/
def transmitOf : Action → Option (List Byte)
  | .beginTransmit bytes => some bytes
  | .beginReceive => none
  | .record _ => none
  | .regData _ => none

/-- The record an action forwards, if any (R75). -/
def recordIn : Action → Option Record
  | .record r => some r
  | .beginTransmit _ => none
  | .beginReceive => none
  | .regData _ => none

/-- Every action of a trace in the order the actions left the block (R53). -/
def emitted : List StepRecord → List Action
  | [] => []
  | r :: older => emitted older ++ r.actions

/-- The packets handed to the transport, oldest first. -/
def transmitted (trace : List StepRecord) : List (List Byte) := (emitted trace).filterMap transmitOf

/-- The packets handed to the transport whose transmit it has not reported failed, oldest first. A failure
is of the outstanding transmit (R116, R171), which is of the last packet handed over. -/
def surviving : List StepRecord → List (List Byte)
  | [] => []
  | r :: older =>
    (if r.event = .txDone .fail ∧ (transportOf older).sending.isSome = true
      then (surviving older).dropLast else surviving older)
    ++ r.actions.filterMap transmitOf

/-- The records forwarded, oldest first. -/
def recorded (trace : List StepRecord) : List Record := (emitted trace).filterMap recordIn

/-- The part of a trace since its last RESET (since power-on, where there is none). -/
def sinceReset : List StepRecord → List StepRecord
  | [] => []
  | r :: older => if r.event = .reset then [] else r :: sinceReset older

/-- Whether a step discarded a transfer (R160). -/
def isDiscard (r : StepRecord) : Bool :=
  match r.tag with
  | .discarded _ => true
  | _ => false

/-- How many transfers a trace discarded. -/
def discards (trace : List StepRecord) : Nat := (trace.filter isDiscard).length

/-- The packetId a packet carries (R60). -/
def packetIdOf (packet : List Byte) : Word32 := BitVec.ofNat 32 (memRead packet 0 4)

/-- `n` packetIds from `first`, each 1 above the one before, modulo 2^32 (R118). -/
def consecutive (first : Word32) : Nat → List Word32
  | 0 => []
  | n + 1 => first :: consecutive (first + 1) n

/-- What the transmit buffer reads at offsets 0 to 14. -/
def bufferBytes (m : Memory) : List (Option Byte) := (List.range pktSize).map (Memory.read m)

/-- A transfer whose `DATA` outcome a step latched (R121). -/
def latchedTransfer (r : StepRecord) : Option RxLatch :=
  match r.event, r.tag with
  | .rxDoneData bytes rssi snr, .latched => some ⟨.data, bytes, rssi, snr⟩
  | _, _ => none

/-- The `DATA` transfers a trace latched, oldest first. -/
def latchedTransfers : List StepRecord → List RxLatch
  | [] => []
  | r :: older => latchedTransfers older ++ (latchedTransfer r).toList

/-- The record `RX_SERVICE` would forward for a latch, if any (R126). -/
def forwardable (l : RxLatch) : Option Record :=
  match judge l with
  | .forward r => some r
  | .quiet => none
  | .discard _ => none

/-- `k` steps of a unit, stopping at the first refusal. -/
def run : Nat → State → Result
  | 0, s => .next s
  | k + 1, s =>
    match step s with
    | .next s' => run k s'
    | .fault r => .fault r
    | .refused r => .refused r

/-- The events of a sequence of CAN frames (R71). -/
def frameEvents (fs : List CanFrame) : List Event := fs.map fun f => encode (.canFrame f)

/-- The transmit buffer keeps its canonical form. -/
abbrev BufferCanonical (s : State) : Prop := Memory.wf s.txBuf = true

/-- The transmit buffer holds 15 bytes (R21, R25). -/
abbrev BufferFull (s : State) : Prop := (bufferBytes s.txBuf).all Option.isSome = true

/-- Before `START` the channel is free: only an admission clears it (R22, R113). -/
abbrev FreeBeforeStart (s : State) : Prop := s.txStarted = false → s.channelFree = true

/-- `seq` is SEQ_INIT plus the number of packets admitted since the last reset (R24, R118). -/
abbrev SeqCountsAdmitted (s : State) : Prop :=
  s.seq = s.params.seqInit + BitVec.ofNat 32 (transmitted (sinceReset s.trace)).length

/-- The packetIds transmitted since the last reset are consecutive from SEQ_INIT (R118). -/
abbrev IdsConsecutive (s : State) : Prop :=
  (transmitted (sinceReset s.trace)).map packetIdOf
    = consecutive s.params.seqInit (transmitted (sinceReset s.trace)).length

/-- The channel is busy exactly while a transmit is outstanding at the transport (R32, R117, R171). -/
abbrev ChannelTracksTransport (s : State) : Prop :=
  s.channelFree = (transportOf s.trace).sending.isNone

/-- `tx_buf` holds the packet of the last frame admitted since the last reset (R25). -/
abbrev BufferHoldsLast (s : State) : Prop :=
  ∀ packet, packet ∈ (transmitted (sinceReset s.trace)).getLast? →
    bufferBytes s.txBuf = packet.map some

/-- What holds of a TX unit (R21 to R25, R117, R118, R176). -/
structure TxInv (s : State) : Prop where
  canonical : BufferCanonical s
  freeBeforeStart : FreeBeforeStart s
  seqCounts : SeqCountsAdmitted s
  ids : IdsConsecutive s
  channel : ChannelTracksTransport s
  buffer : BufferHoldsLast s
  notListening : (transportOf s.trace).listening = false
  full : BufferFull s

/-- An RX unit is IDLE exactly while it is not started (R27). -/
abbrev IdleIffNotStarted (s : State) : Prop := s.rxState = .idle ↔ s.rxStarted = false

/-- A receive is outstanding at the transport exactly while the unit is ARMED (R27, R120). -/
abbrev ArmedTracksTransport (s : State) : Prop :=
  (transportOf s.trace).listening = decide (s.rxState = .armed)

/-- `rx_bad_count` counts the transfers discarded since the last reset, modulo 2^32 (R29). -/
abbrev CountsDiscards (s : State) : Prop :=
  s.rxBadCount = BitVec.ofNat 32 (discards (sinceReset s.trace))

/-- The latched bytes keep the transport's bound (R28). -/
abbrev LatchBounded (s : State) : Prop := fits s.rxLatch.bytes s.params.rxMaxBytes = true

/-- What holds of an RX unit (R26 to R29, R120, R176). -/
structure RxInv (s : State) : Prop where
  idle : IdleIffNotStarted s
  armed : ArmedTracksTransport s
  count : CountsDiscards s
  bounded : LatchBounded s
  notSending : (transportOf s.trace).sending = none

/-- The invariant of a unit, by its role (R2). -/
structure Inv (s : State) : Prop where
  tx : s.params.role = .tx → TxInv s
  rx : s.params.role = .rx → RxInv s

/-- The records of an RX unit are, in order, records of transfers it latched, each used at most once
(R54, R134, R138); a latched `DATA` transfer not yet serviced is not used. -/
structure ForwardsLatched (s : State) : Prop where
  all : (recorded s.trace).Sublist ((latchedTransfers s.trace).filterMap forwardable)
  waiting : s.rxState = .pending → s.rxLatch.outcome = .data →
    ∃ before, latchedTransfers s.trace = before ++ [s.rxLatch] ∧
      (recorded s.trace).Sublist (before.filterMap forwardable)

/-- A system event in which the link alters no packet (R174). -/
def unaltered : SystemEvent → Bool
  | .link (.altered _ _ _) => false
  | .link (.intact _ _) => true
  | .link (.failed _) => true
  | .link .lost => true
  | .atCar _ => true
  | .atGround _ => true

/-- The event words of `REG_READ`: "`0x07` to `0xF7` in steps of `0x10`" (R78). -/
def readWords : List Byte := (List.range 16).map fun k => BitVec.ofNat 8 (0x07 + 0x10 * k)

/-- "The complete set of accepted event words" of a unit (R78). -/
def acceptedWords : Role → List Byte
  | .tx => [0x01, 0x02, 0x03, 0x04, 0x14] ++ readWords
  | .rx => [0x01, 0x02, 0x05, 0x15, 0x25, 0x35, 0x45, 0x06] ++ readWords

/-- Whether an event's word and payload decode to an operation of a unit. -/
def spells (r : Role) (w : Byte) (p : Payload) : Prop :=
  ∃ i, decode w p = .ok i ∧ (unitOf i = none ∨ unitOf i = some r)

/-- Whether a payload has the shape a word selects (R66, R70, R71). -/
def shapeMatches (w : Byte) : Payload → Bool
  | .canFrame _ _ data => w = 0x03 && data.length = 8
  | .rxData _ _ _ => w = 0x05
  | .empty => w != 0x03 && w != 0x05

/-- The conditions under which an event word spells no operation of a unit, in the order and words of
R77. -/
def refusedBy (r : Role) (w : Byte) (p : Payload) : Prop :=
  (opField w = 0x0 ∨ 0x8 ≤ (opField w).toNat)
    ∨ (r = .rx ∧ (opField w = 0x3 ∨ opField w = 0x4))
    ∨ (r = .tx ∧ (opField w = 0x5 ∨ opField w = 0x6))
    ∨ ((opField w = 0x1 ∨ opField w = 0x2 ∨ opField w = 0x3 ∨ opField w = 0x6) ∧ subField w ≠ 0)
    ∨ (opField w = 0x4 ∧ w.extractLsb' 5 3 ≠ 0)
    ∨ (opField w = 0x5 ∧ 5 ≤ (subField w).toNat)
    ∨ shapeMatches w p = false

/-- Whether a tag is one the table of R160 gives for an event. -/
def tagAllowed (i : Instr) : Tag → Bool
  | .ignored =>
    match i with
    | .reset => false
    | .regRead _ => false
    | .rxService => false
    | .start => true
    | .canFrame _ => true
    | .txDone _ => true
    | .rxDoneData _ _ _ => true
    | .rxDoneTimeout => true
    | .rxDoneIntegrityFail => true
    | .rxDoneHeaderFail => true
    | .rxDoneTransportError => true
  | .admitted => match i with | .canFrame _ => true | _ => false
  | .dropped => match i with | .canFrame _ => true | _ => false
  | .completed => match i with | .txDone _ => true | _ => false
  | .latched =>
    match i with
    | .rxDoneData _ _ _ => true
    | .rxDoneTimeout => true
    | .rxDoneIntegrityFail => true
    | .rxDoneHeaderFail => true
    | .rxDoneTransportError => true
    | _ => false
  | .forwarded => decide (i = .rxService)
  | .idle => decide (i = .rxService)
  | .discarded _ => decide (i = .rxService)
  | .started => decide (i = .start)
  | .read => match i with | .regRead _ => true | _ => false
  | .reset => decide (i = .reset)

/-- The value of a digit, its letters in the given case; none for another character. -/
def digitValue (upper : Bool) (c : Char) : Option Nat :=
  if 48 ≤ c.toNat ∧ c.toNat ≤ 57 then some (c.toNat - 48)
  else if upper = true ∧ 65 ≤ c.toNat ∧ c.toNat ≤ 70 then some (c.toNat - 55)
  else if upper = false ∧ 97 ≤ c.toNat ∧ c.toNat ≤ 102 then some (c.toNat - 87)
  else none

/-- The number that digits spell in a base after a number already read; none when one is no digit. -/
def numeralFrom (base : Nat) (upper : Bool) (sofar : Nat) : List Char → Option Nat
  | [] => some sofar
  | c :: cs =>
    match digitValue upper c with
    | some d => if d < base then numeralFrom base upper (sofar * base + d) cs else none
    | none => none

/-- The number that a text spells in a base (R178). -/
def numeral (base : Nat) (upper : Bool) (text : List Char) : Option Nat :=
  if text = [] then none else numeralFrom base upper 0 text

/-- Whether a numeral has no leading zeros (R178). -/
def withoutLeadingZeros (text : List Char) : Prop := text = ['0'] ∨ text.head? ≠ some '0'

/-- A record without its link quality. -/
def stripLq (r : Record) : Record := { r with rssi := .zero, snr := .zero }

/-- The record of a packet, without link quality (R133, R134). -/
def recordOfPacket (packet : List Byte) : Record := recordOf (deserialize packet) .zero .zero

/-- A system event that is not a RESET of the car's unit. -/
def notCarReset : SystemEvent → Bool
  | .atCar i => decide (i ≠ .reset)
  | .atGround _ => true
  | .link _ => true

end Sys2Proof.Machine
end

