-- ==== Sys2Proof/Certificates/Slice0/Obligations.lean ====
section
/-! DEFINITION. The statements for the provers. -/

open Sys2Proof Sys2Proof.Machine Host

/-! ### Encoding (30_encoding.md) -/

/-- Decoding the encoding of an operation gives it back, every operand at every value (R70 to R74). -/
def Obligations.DecodeOfEncode : Prop :=
  ∀ i : Instr, decode (encode i).word (encode i).payload = .ok i

/-- Each event that decodes is the encoding of what it decodes to: no operation has two spellings
(R70 to R74). -/
def Obligations.EncodeOfDecode : Prop :=
  ∀ (w : Byte) (p : Payload) (i : Instr), decode w p = .ok i → encode i = ⟨w, p⟩

/-- R78: the complete set of accepted event words of each unit; every other byte is refused there. -/
def Obligations.AcceptedWordsAreExactlyTheTable : Prop :=
  (∀ (r : Role) (w : Byte), (∃ p, spells r w p) ↔ w ∈ acceptedWords r) ∧
  ∀ (s : State) (w : Byte) (p : Payload) (rest : List Event), s.inbox = ⟨w, p⟩ :: rest →
    w ∉ acceptedWords s.params.role → ∃ why, step s = .refused why

/-- R77: an event spells no operation of a unit exactly under the listed conditions, and `step` refuses
it. -/
def Obligations.RefusedWordsAreExactlyReserved : Prop :=
  ∀ (s : State) (w : Byte) (p : Payload) (rest : List Event), s.inbox = ⟨w, p⟩ :: rest →
    (refusedBy s.params.role w p ↔ ¬ spells s.params.role w p) ∧
    (refusedBy s.params.role w p → ∃ why, step s = .refused why)

/-- A few words written out from the tables of R71 to R74. -/
def Obligations.SampleWordsDecode : Prop :=
  decode 0b00000001#8 .empty = .ok .reset ∧
  decode 0b00010100#8 .empty = .ok (.txDone .fail) ∧
  decode 0b01000101#8 .empty = .ok .rxDoneTransportError ∧
  decode 0b00000110#8 .empty = .ok .rxService ∧
  decode 0b10100111#8 .empty = .ok (.regRead 10)

/-- An event that decodes is run by `exec` as one step (R8, R49). That the events presented stand in an
inbox, oldest first, and that the step takes the oldest is the model's choice (log 1): the block does not
determine which event comes next (R50). -/
def Obligations.StepRunsDecodedEvent : Prop :=
  ∀ (s : State) (e : Event) (rest : List Event) (i : Instr),
    s.inbox = e :: rest → decode e.word e.payload = .ok i →
    step s = exec i { s with inbox := rest }

/-- With no event presented, an RX unit in PENDING services its latch and every other unit is idle
(R126, R185; the order is the model's choice, log 3). -/
def Obligations.StepWithoutEvents : Prop :=
  ∀ s : State, s.inbox = [] →
    (s.params.role = .rx ∧ s.rxState = .pending → step s = exec .rxService s) ∧
    (¬ (s.params.role = .rx ∧ s.rxState = .pending) → step s = .next s)

/-! ### Bytes, packets and the transmit buffer (00_scope.md, 20_memory.md, 40_framer.md) -/

/-- MemRead after MemWrite of the same width at the same offset gives the value written, cut to the width
(R7, R40, R41). -/
def Obligations.MemReadAfterMemWrite : Prop :=
  ∀ (buf : List Byte) (off n v : Nat), off + n ≤ buf.length →
    memRead (memWrite buf off n v) off n = v % 256 ^ n

/-- MemWrite writes bits `8i+7` to `8i` of the value at offset `off + i` and no other byte (R7). -/
def Obligations.MemWriteBytes : Prop :=
  ∀ (buf : List Byte) (off n v : Nat), off + n ≤ buf.length →
    (memWrite buf off n v).length = buf.length ∧
    (∀ i, i < n → (memWrite buf off n v)[off + i]? = some (BitVec.ofNat 8 (v / 256 ^ i))) ∧
    (∀ a, a < off ∨ off + n ≤ a → (memWrite buf off n v)[a]? = buf[a]?)

/-- A write to the transmit buffer is read back at its offset and leaves every other offset alone. -/
def Obligations.BufferReadAfterWrite : Prop :=
  ∀ (m : Memory) (a c : Nat) (b : Byte),
    Memory.read (Memory.write m a b) c = if c = a then some b else Memory.read m c

/-- R60: the 15 bytes of the packet, by offset. -/
def Obligations.PacketLayout : Prop :=
  ∀ (pid : Word32) (f : CanFrame),
    (serialize pid f).length = 15 ∧
    (serialize pid f)[0]? = some (pid.extractLsb' 0 8) ∧
    (serialize pid f)[1]? = some (pid.extractLsb' 8 8) ∧
    (serialize pid f)[2]? = some (pid.extractLsb' 16 8) ∧
    (serialize pid f)[3]? = some (pid.extractLsb' 24 8) ∧
    (serialize pid f)[4]? = some (f.id.extractLsb' 0 8) ∧
    (serialize pid f)[5]? = some (f.id.extractLsb' 8 8) ∧
    (∃ len : Byte, (serialize pid f)[6]? = some len ∧ len.toNat = min f.length.toNat 8) ∧
    (∀ i : Fin 8, (serialize pid f)[7 + i.val]? = some f.data[i])

/-- R102: the canId field is the low 16 bits of the identifier; an 11-bit identifier is kept whole, and
two identifiers that differ above bit 15 only give the same field. -/
def Obligations.CanIdFieldIsLowSixteenBits : Prop :=
  (∀ (pid : Word32) (f : CanFrame),
    memRead (serialize pid f) 4 2 = f.id.toNat &&& 0xFFFF ∧
    (f.id.toNat < 0x800 → memRead (serialize pid f) 4 2 = f.id.toNat)) ∧
  ∀ (pid : Word32) (f : CanFrame), f.id = 0x1ABC0123 ∨ f.id = 0x00000123 →
    memRead (serialize pid f) 4 2 = 0x0123

/-- R106: the round trip through framer and deframer. -/
def Obligations.PacketRoundTrip : Prop :=
  ∀ (pid : Word32) (f : CanFrame), f.length.toNat ≤ 8 →
    (deserialize (serialize pid f)).packetId = pid ∧
    (deserialize (serialize pid f)).canId.toNat = f.id.toNat &&& 0xFFFF ∧
    (deserialize (serialize pid f)).len.toNat = f.length.toNat ∧
    (deserialize (serialize pid f)).data.take f.length.toNat = f.data.toList.take f.length.toNat

/-- R137: the logical frame reconstructed from a packet has the low 16 bits of the identifier, the length
and the payload; bits 28:16 are not restored. -/
def Obligations.ReconstructedFrame : Prop :=
  ∀ (pid : Word32) (f : CanFrame) (rssi snr : LQ), f.length.toNat ≤ 8 →
    (reconstruct (recordOf (deserialize (serialize pid f)) rssi snr)).identifier.toNat
      = f.id.toNat % 2 ^ 16 ∧
    (reconstruct (recordOf (deserialize (serialize pid f)) rssi snr)).length.toNat
      = f.length.toNat ∧
    (reconstruct (recordOf (deserialize (serialize pid f)) rssi snr)).payload
      = f.data.toList.take f.length.toNat

/-- R178: the sink's line has, separated by commas, packetId in decimal, canId in hexadecimal without
leading zeros and two hexadecimal digits for each data byte; a record without data has the first two only.
A suffix in an open format (log 17) and a newline follow. -/
def Obligations.SinkLineFields : Prop :=
  (∀ (upper : Bool) (r : Record), ∃ (packetId canId : List Char) (bytes : List (List Char)),
    sinkFields upper r = List.intercalate [','] (packetId :: canId :: bytes) ∧
    numeral 10 upper packetId = some r.packetId.toNat ∧ withoutLeadingZeros packetId ∧
    numeral 16 upper canId = some r.canId.toNat ∧ withoutLeadingZeros canId ∧
    List.Forall₂ (fun text (b : Byte) => text.length = 2 ∧ numeral 16 upper text = some b.toNat)
      bytes r.data ∧
    (r.data = [] → sinkFields upper r = packetId ++ ',' :: canId)) ∧
  ∀ r : Record, ∃ suffix,
    sinkLine r = sinkFields Config.sinkUppercase r ++ suffix ++ [Char.ofNat 10]

/-- Every 15-byte sequence with a valid len byte is the serialization of some frame (R60, R63, R105). -/
def Obligations.EveryValidPacketIsSerialized : Prop :=
  ∀ b : List Byte, b.length = 15 → memRead b 6 1 ≤ 8 → ∃ pid f, serialize pid f = b

/-! ### Admission (41_admission.md) -/

/-- R111: an admission's next state. The transmit buffer reads as the packet at offsets 0 to 14 and is
unchanged elsewhere. -/
def Obligations.CanFrameAdmitted : Prop :=
  ∀ (f : CanFrame) (s : State), s.params.role = .tx → s.txStarted = true → s.channelFree = true →
    ∃ t, exec (.canFrame f) s = .next t ∧
      t.channelFree = false ∧ t.seq = s.seq + 1 ∧
      t.trace = ⟨.canFrame f, .admitted, [.beginTransmit (serialize s.seq f)]⟩ :: s.trace ∧
      (∀ a, a < 15 → Memory.read t.txBuf a = (serialize s.seq f)[a]?) ∧
      (∀ a, 15 ≤ a → Memory.read t.txBuf a = Memory.read s.txBuf a) ∧
      t = { s with channelFree := t.channelFree, seq := t.seq, txBuf := t.txBuf, trace := t.trace }

/-- R112, R113: a frame is dropped while the channel is busy and ignored before START; neither writes any
state or emits any action. -/
def Obligations.CanFrameDroppedOrIgnored : Prop :=
  ∀ (f : CanFrame) (s : State), s.params.role = .tx →
    (s.txStarted = true → s.channelFree = false →
      exec (.canFrame f) s = .next { s with trace := ⟨.canFrame f, .dropped, []⟩ :: s.trace }) ∧
    (s.txStarted = false →
      exec (.canFrame f) s = .next { s with trace := ⟨.canFrame f, .ignored, []⟩ :: s.trace })

/-- R115: TX_DONE frees the channel whatever its status, and is ignored before START. -/
def Obligations.TxDoneFreesChannel : Prop :=
  ∀ (status : TxStatus) (s : State), s.params.role = .tx →
    (s.txStarted = true → exec (.txDone status) s =
      .next { s with channelFree := true, trace := ⟨.txDone status, .completed, []⟩ :: s.trace }) ∧
    (s.txStarted = false → exec (.txDone status) s =
      .next { s with trace := ⟨.txDone status, .ignored, []⟩ :: s.trace })

/-- R117: of a burst of frames with no TX_DONE between them, exactly the first is admitted when the
channel was free, and none when it was busy. -/
def Obligations.BurstAdmitsOnlyFirst : Prop :=
  ∀ (f : CanFrame) (fs : List CanFrame) (rest : List Event) (s : State),
    s.params.role = .tx → s.txStarted = true → s.inbox = frameEvents (f :: fs) ++ rest →
    ∃ t, run (fs.length + 1) s = .next t ∧ t.inbox = rest ∧ t.channelFree = false ∧
      (s.channelFree = true →
        transmitted t.trace = transmitted s.trace ++ [serialize s.seq f] ∧ t.seq = s.seq + 1 ∧
        t.trace.map (·.tag) = List.replicate fs.length .dropped ++ .admitted :: s.trace.map (·.tag)) ∧
      (s.channelFree = false →
        transmitted t.trace = transmitted s.trace ∧ t.seq = s.seq ∧ t.txBuf = s.txBuf ∧
        t.trace.map (·.tag) = List.replicate (fs.length + 1) .dropped ++ s.trace.map (·.tag))

/-- While a transmit is in flight no event but TX_DONE or RESET frees the channel, and none emits a
BEGIN_TRANSMIT (R117, R203, R204). -/
def Obligations.NoTransmitWhileInFlight : Prop :=
  ∀ (i : Instr) (s t : State), s.channelFree = false → exec i s = .next t →
    transmitted t.trace = transmitted s.trace ∧
    (t.channelFree = true → (∃ status, i = .txDone status) ∨ i = .reset) ∧
    (i ≠ .reset → t.txBuf = s.txBuf)

/-- R22: `channel_free` is cleared only by an admitted CAN_FRAME and set only by TX_DONE or RESET; its
reset value is true. -/
def Obligations.ChannelFreeWriters : Prop :=
  (∀ (i : Instr) (s t : State), exec i s = .next t →
    (s.channelFree = true → t.channelFree = false →
      ∃ f actions, i = .canFrame f ∧ t.trace = ⟨i, .admitted, actions⟩ :: s.trace) ∧
    (s.channelFree = false → t.channelFree = true →
      (∃ status, i = .txDone status) ∨ i = .reset)) ∧
  ∀ p : Params, (State.powerOn p).channelFree = true

/-- R24: an admitted frame carries `seq` as its packetId and `seq` grows by exactly 1; it takes SEQ_INIT at
RESET (R144), and changes at no other time; its reset value is SEQ_INIT. -/
def Obligations.SeqWriters : Prop :=
  (∀ (i : Instr) (s t : State), exec i s = .next t →
    (t.trace.head?.map (·.tag) = some .admitted → t.seq = s.seq + 1 ∧
      ∃ packet, t.trace = ⟨i, .admitted, [.beginTransmit packet]⟩ :: s.trace ∧
        packetIdOf packet = s.seq) ∧
    (i = .reset → s.params.role = .tx → t.seq = s.params.seqInit) ∧
    (t.seq ≠ s.seq → (t.trace.head?.map (·.tag) = some .admitted ∧ ∃ f, i = .canFrame f) ∨
      (i = .reset ∧ s.params.role = .tx))) ∧
  ∀ p : Params, (State.powerOn p).seq = p.seqInit

/-- R118: over any run of a TX unit from power-on, under any sequence of events, the packetIds transmitted
since the last RESET are SEQ_INIT, SEQ_INIT + 1, ... without gap or repeat. -/
def Obligations.PacketIdsConsecutiveOverRuns : Prop :=
  ∀ (p : Params) (events : List Event) (k : Nat) (t : State), p.role = .tx →
    run k { State.powerOn p with inbox := events } = .next t →
    (transmitted (sinceReset t.trace)).map packetIdOf
      = consecutive p.seqInit (transmitted (sinceReset t.trace)).length

/-- R50: a CAN_FRAME and a TX_DONE that arrive at once at a busy unit may be taken in either order; the
frame is dropped in one and admitted in the other. -/
def Obligations.BothOrdersGiveDifferentResults : Prop :=
  ∀ (f : CanFrame) (status : TxStatus) (s : State),
    s.params.role = .tx → s.txStarted = true → s.channelFree = false →
    (s.inbox = [encode (.canFrame f), encode (.txDone status)] →
      ∃ t, run 2 s = .next t ∧ t.channelFree = true ∧ t.seq = s.seq ∧
        transmitted t.trace = transmitted s.trace) ∧
    (s.inbox = [encode (.txDone status), encode (.canFrame f)] →
      ∃ t, run 2 s = .next t ∧ t.channelFree = false ∧ t.seq = s.seq + 1 ∧
        transmitted t.trace = transmitted s.trace ++ [serialize s.seq f])

/-! ### Reception (42_deframer.md) -/

/-- R121: RX_DONE with outcome DATA, of any byte count the transport can report, is latched with its bytes
and link quality by an armed unit. -/
def Obligations.RxDoneDataLatched : Prop :=
  ∀ (bytes : List Byte) (rssi snr : LQ) (s : State), s.params.role = .rx →
    bytes.length ≤ s.params.rxMaxBytes → s.rxStarted = true → s.rxState = .armed →
    exec (.rxDoneData bytes rssi snr) s =
      .next { s with
        rxLatch := ⟨.data, bytes, rssi, snr⟩
        rxState := .pending
        trace := ⟨.rxDoneData bytes rssi snr, .latched, []⟩ :: s.trace }

/-- R121: RX_DONE with another outcome latches that outcome; the other fields of the latch are left open
within the bound of R28. -/
def Obligations.RxDoneOutcomeLatched : Prop :=
  ∀ (i : Instr) (outcome : RxOutcome) (s : State),
    (i, outcome) ∈ [(Instr.rxDoneTimeout, RxOutcome.timeout),
      (.rxDoneIntegrityFail, .integrityFail), (.rxDoneHeaderFail, .headerFail),
      (.rxDoneTransportError, .transportError)] →
    s.params.role = .rx → s.rxStarted = true → s.rxState = .armed →
    ∃ l : RxLatch, l.outcome = outcome ∧ l.bytes.length ≤ s.params.rxMaxBytes ∧
      exec i s = .next { s with
        rxLatch := l
        rxState := .pending
        draws := s.draws + 1
        trace := ⟨i, .latched, []⟩ :: s.trace }

/-- R122: an RX_DONE outside ARMED, or before START, is ignored: no state changes. -/
def Obligations.RxDoneIgnoredUnlessArmed : Prop :=
  ∀ (i : Instr) (s : State),
    (i ∈ [Instr.rxDoneTimeout, .rxDoneIntegrityFail, .rxDoneHeaderFail, .rxDoneTransportError] ∨
      ∃ bytes rssi snr, i = .rxDoneData bytes rssi snr ∧ bytes.length ≤ s.params.rxMaxBytes) →
    s.params.role = .rx → (s.rxStarted = false ∨ s.rxState ≠ .armed) →
    exec i s = .next { s with trace := ⟨i, .ignored, []⟩ :: s.trace }

/-- R127: a timeout emits no record, does not count, and re-arms. -/
def Obligations.RxServiceTimeout : Prop :=
  ∀ s : State, s.params.role = .rx → s.rxState = .pending → s.rxLatch.outcome = .timeout →
    exec .rxService s = .next { s with
      rxState := .armed
      trace := ⟨.rxService, .idle, [.beginReceive]⟩ :: s.trace }

/-- R128, R129, R130: a failure the transport reports is discarded, counted once and re-armed. -/
def Obligations.RxServiceDiscardsFailures : Prop :=
  ∀ (outcome : RxOutcome) (cause : Cause) (s : State),
    (outcome, cause) ∈ [(RxOutcome.integrityFail, Cause.integrity), (.headerFail, .header),
      (.transportError, .transport)] →
    s.params.role = .rx → s.rxState = .pending → s.rxLatch.outcome = outcome →
    exec .rxService s = .next { s with
      rxState := .armed
      rxBadCount := s.rxBadCount + 1
      trace := ⟨.rxService, .discarded cause, [.beginReceive]⟩ :: s.trace }

/-- R131, R132: a DATA transfer of another byte count than 15 is discarded as LENGTH, one of 15 bytes with
a len byte above 8 as LEN_FIELD, each counted once. -/
def Obligations.RxServiceDiscardsMalformed : Prop :=
  ∀ s : State, s.params.role = .rx → s.rxState = .pending → s.rxLatch.outcome = .data →
    (s.rxLatch.bytes.length ≠ 15 →
      exec .rxService s = .next { s with
        rxState := .armed
        rxBadCount := s.rxBadCount + 1
        trace := ⟨.rxService, .discarded .length, [.beginReceive]⟩ :: s.trace }) ∧
    (∀ len : Byte, s.rxLatch.bytes.length = 15 → s.rxLatch.bytes[6]? = some len → 8 < len.toNat →
      exec .rxService s = .next { s with
        rxState := .armed
        rxBadCount := s.rxBadCount + 1
        trace := ⟨.rxService, .discarded .lenField, [.beginReceive]⟩ :: s.trace })

/-- R134: a valid transfer is forwarded as one record with the latched link quality and only its first
`len` data bytes, then the unit re-arms; the packetId is not checked. -/
def Obligations.RxServiceForwards : Prop :=
  ∀ (b0 b1 b2 b3 b4 b5 len : Byte) (data : List Byte) (rssi snr : LQ) (s : State),
    s.params.role = .rx → s.rxState = .pending → data.length = 8 → len.toNat ≤ 8 →
    s.rxLatch = ⟨.data, [b0, b1, b2, b3, b4, b5, len] ++ data, rssi, snr⟩ →
    exec .rxService s = .next { s with
      rxState := .armed
      trace := ⟨.rxService, .forwarded,
        [.record
            ⟨BitVec.ofNat 32
                (b0.toNat + 2 ^ 8 * b1.toNat + 2 ^ 16 * b2.toNat + 2 ^ 24 * b3.toNat),
              BitVec.ofNat 16 (b4.toNat + 2 ^ 8 * b5.toNat), len, data.take len.toNat, rssi, snr⟩,
          .beginReceive]⟩ :: s.trace }

/-- R135: every RX_SERVICE ends ARMED and emits BEGIN_RECEIVE as its last action, after at most one
record. -/
def Obligations.RxServiceAlwaysRearms : Prop :=
  ∀ s t : State, exec .rxService s = .next t →
    t.rxState = .armed ∧
    ∃ (tag : Tag) (records : List Record), records.length ≤ 1 ∧
      t.trace = ⟨.rxService, tag, records.map Action.record ++ [.beginReceive]⟩ :: s.trace

/-- R126: outside PENDING an RX_SERVICE has no step: the model refuses it by name (log 4). -/
def Obligations.RxServiceOnlyWhilePending : Prop :=
  ∀ s : State, s.params.role = .rx →
    (s.rxState = .pending → ∃ t, exec .rxService s = .next t) ∧
    (s.rxState ≠ .pending → exec .rxService s = .refused .serviceNotEnabled)

/-- The control state of an RX unit moves only along the receive cycle (R27, R120): IDLE to ARMED by START,
ARMED to PENDING by RX_DONE, PENDING to ARMED by RX_SERVICE, and to IDLE by RESET. The premise is
the invariant `IdleIffNotStarted` (stated in `StepKeepsUnitInvariant`). -/
def Obligations.ReceiveCycle : Prop :=
  ∀ (i : Instr) (s t : State), IdleIffNotStarted s → exec i s = .next t → t.rxState ≠ s.rxState →
    (s.rxState = .idle ∧ t.rxState = .armed ∧ i = .start) ∨
    (s.rxState = .armed ∧ t.rxState = .pending ∧
      (i ∈ [Instr.rxDoneTimeout, .rxDoneIntegrityFail, .rxDoneHeaderFail, .rxDoneTransportError] ∨
        ∃ bytes rssi snr, i = .rxDoneData bytes rssi snr)) ∨
    (s.rxState = .pending ∧ t.rxState = .armed ∧ i = .rxService) ∨
    (t.rxState = .idle ∧ i = .reset)

/-- R29: `rx_bad_count` grows by 1, modulo 2^32, with each discarded transfer, is cleared by RESET, and
changes at no other time, so not at a timeout; it is 0 after reset. -/
def Obligations.BadCountWriters : Prop :=
  (∀ (i : Instr) (s t : State), exec i s = .next t →
    (∀ cause, t.trace.head?.map (·.tag) = some (.discarded cause) →
      t.rxBadCount = s.rxBadCount + 1 ∧ i = .rxService) ∧
    (i = .reset → s.params.role = .rx → t.rxBadCount = 0) ∧
    (t.rxBadCount ≠ s.rxBadCount →
      (∃ cause, t.trace.head?.map (·.tag) = some (.discarded cause)) ∨
      (i = .reset ∧ s.params.role = .rx))) ∧
  ∀ p : Params, (State.powerOn p).rxBadCount = 0

/-- What the latch holds beside a non-DATA outcome, and the bytes of a transfer of the wrong length, are
read by no rule: two units that differ only there are serviced alike (R122, R131, R138). -/
def Obligations.UnreadLatchDoesNotMatter : Prop :=
  ∀ (s : State) (l l' : RxLatch), s.params.role = .rx → s.rxState = .pending →
    l.outcome = l'.outcome →
    (l.outcome = .data → l.bytes.length ≠ 15 ∧ l'.bytes.length ≠ 15) →
    ∃ t : State, exec .rxService { s with rxLatch := l } = .next { t with rxLatch := l } ∧
      exec .rxService { s with rxLatch := l' } = .next { t with rxLatch := l' }

/-- The padding of a received packet is not interpreted: two packets that agree up to the end of their
payload are judged alike (R64, R134). -/
def Obligations.PaddingIsNotInterpreted : Prop :=
  ∀ (pre pad pad' : List Byte) (len : Byte) (rssi snr : LQ), len.toNat ≤ 8 → pre[6]? = some len →
    pre.length = 7 + len.toNat → pad.length = 8 - len.toNat → pad'.length = 8 - len.toNat →
    judge ⟨.data, pre ++ pad, rssi, snr⟩ = judge ⟨.data, pre ++ pad', rssi, snr⟩ ∧
    ∃ r, judge ⟨.data, pre ++ pad, rssi, snr⟩ = .forward r

/-- The records an RX unit forwards are records of transfers it latched, in that order, each at most once:
every step keeps it (R134, R138, R54). -/
def Obligations.StepKeepsForwardingOrder : Prop :=
  ∀ s t : State, ForwardsLatched s → step s = .next t → ForwardsLatched t

/-- A latched transfer is served: a PENDING RX unit whose presented events are all operations it accepts
leaves PENDING within one step more than there are events (R126, R135, R212; that the unit serves
itself once no event is presented is the model's choice, log 3). -/
def Obligations.PendingIsServed : Prop :=
  ∀ s : State, s.params.role = .rx → s.rxState = .pending →
    (∀ e ∈ s.inbox, ∃ i, decode e.word e.payload = .ok i ∧ wellFormed s.params i = true) →
    ∃ k t, k ≤ s.inbox.length + 1 ∧ run k s = .next t ∧ t.rxState ≠ .pending

/-! ### Control, registers, outcomes (10_state.md, 43_control.md, 60_exceptions.md) -/

/-- R140: START at a TX unit and at an RX unit; a started unit ignores it (R141). -/
def Obligations.StartStartsOnce : Prop :=
  ∀ s : State,
    (s.params.role = .tx → s.txStarted = false →
      exec .start s = .next { s with
        txStarted := true
        trace := ⟨.start, .started, []⟩ :: s.trace }) ∧
    (s.params.role = .rx → s.rxStarted = false →
      exec .start s = .next { s with
        rxStarted := true
        rxState := .armed
        trace := ⟨.start, .started, [.beginReceive]⟩ :: s.trace }) ∧
    ((s.params.role = .tx ∧ s.txStarted = true) ∨ (s.params.role = .rx ∧ s.rxStarted = true) →
      exec .start s = .next { s with trace := ⟨.start, .ignored, []⟩ :: s.trace })

/-- R142, R34, R35, R36: REG_READ emits the value of the register and writes no state. -/
def Obligations.RegReadEmitsRegister : Prop :=
  ∀ (r : BitVec 4) (s : State), ∃ v : Word32,
    exec (.regRead r) s = .next { s with trace := ⟨.regRead r, .read, [.regData v]⟩ :: s.trace } ∧
    (r = 0 → v = statusReg s) ∧
    (r = 1 → v = match s.params.role with | .tx => s.seq | .rx => 0) ∧
    (r = 2 → v = match s.params.role with | .tx => 0 | .rx => s.rxBadCount) ∧
    (3 ≤ r.toNat → v = 0)

/-- R33: the bits of STATUS in each unit, and their reset values. -/
def Obligations.StatusBits : Prop :=
  (∀ p : Params, (p.role = .tx → statusReg (State.powerOn p) = 1) ∧
    (p.role = .rx → statusReg (State.powerOn p) = 0)) ∧
  ∀ s : State,
    (s.params.role = .tx →
      (statusReg s).getLsbD 0 = s.channelFree ∧ (statusReg s).getLsbD 1 = s.txStarted ∧
      (statusReg s).getLsbD 2 = false ∧ (statusReg s).getLsbD 3 = false) ∧
    (s.params.role = .rx →
      (statusReg s).getLsbD 0 = false ∧ (statusReg s).getLsbD 1 = s.rxStarted ∧
      (statusReg s).getLsbD 2 = decide (s.rxState = .armed) ∧
      (statusReg s).getLsbD 3 = decide (s.rxState = .pending)) ∧
    ∀ i, 4 ≤ i → (statusReg s).getLsbD i = false

/-- R144: RESET is accepted in every state, emits nothing and sets every element of its unit to its reset
value, the one it has at power-on (R37); `tx_buf` then holds 15 bytes and `rx_latch` a transfer of any
value. That the model counts the free values it draws is its own choice (log 9). -/
def Obligations.ResetRestoresUnit : Prop :=
  (∀ p : Params, State.powerOn p = { State.powerOn p with
    txStarted := false
    channelFree := true
    seq := p.seqInit
    rxStarted := false
    rxState := .idle
    rxBadCount := 0 }) ∧
  ∀ s : State,
    (s.params.role = .tx → ∃ buf, Memory.wf buf = true ∧
      (∀ a, (Memory.read buf a).isSome = decide (a < 15)) ∧
      exec .reset s = .next { s with
        txStarted := false
        channelFree := true
        seq := s.params.seqInit
        txBuf := buf
        draws := s.draws + 1
        trace := ⟨.reset, .reset, []⟩ :: s.trace }) ∧
    (s.params.role = .rx → ∃ l : RxLatch, l.bytes.length ≤ s.params.rxMaxBytes ∧
      exec .reset s = .next { s with
        rxStarted := false
        rxState := .idle
        rxBadCount := 0
        rxLatch := l
        draws := s.draws + 1
        trace := ⟨.reset, .reset, []⟩ :: s.trace })

/-- R37: the reset values the spec gives, of each unit at power-on. -/
def Obligations.PowerOnValues : Prop :=
  ∀ p : Params, (State.powerOn p).txStarted = false ∧ (State.powerOn p).channelFree = true ∧
    (State.powerOn p).seq = p.seqInit ∧ (State.powerOn p).rxStarted = false ∧
    (State.powerOn p).rxState = .idle ∧ (State.powerOn p).rxBadCount = 0

/-- R201: between reset and START a unit answers REG_READ, takes RESET and START, ignores CAN_FRAME,
TX_DONE and RX_DONE, and has no RX_SERVICE. -/
def Obligations.BetweenResetAndStart : Prop :=
  ∀ (i : Instr) (s : State), wellFormed s.params i = true →
    s.txStarted = false → s.rxStarted = false → s.rxState = .idle →
    (i ≠ .reset → i ≠ .start → i ≠ .rxService → (∀ r, i ≠ .regRead r) →
      exec i s = .next { s with trace := ⟨i, .ignored, []⟩ :: s.trace }) ∧
    (i = .rxService → exec i s = .refused .serviceNotEnabled) ∧
    (i = .reset ∨ i = .start ∨ (∃ r, i = .regRead r) → ∃ t, exec i s = .next t)

/-- R160: every step records exactly one outcome tag, one the table gives for its event. -/
def Obligations.StepRecordsOneOutcome : Prop :=
  ∀ (i : Instr) (s t : State), exec i s = .next t →
    ∃ tag actions, t.trace = ⟨i, tag, actions⟩ :: s.trace ∧ tagAllowed i tag = true

/-- R7 `ignore`: a step whose outcome is IGNORED emits no action and changes no state. -/
def Obligations.IgnoredChangesNothing : Prop :=
  ∀ (i : Instr) (s t : State) (actions : List Action), exec i s = .next t →
    t.trace = ⟨i, .ignored, actions⟩ :: s.trace →
    actions = [] ∧ t = { s with trace := t.trace }

/-- An operation is refused exactly when the unit does not accept it, or when it is an RX_SERVICE that is
not enabled; every other operation completes, and none faults (R77, R126, R161). -/
def Obligations.RefusedExactlyWhenNotAccepted : Prop :=
  ∀ (i : Instr) (s : State),
    ((∃ why, exec i s = .refused why) ↔
      wellFormed s.params i = false ∨ (i = .rxService ∧ s.rxState ≠ .pending)) ∧
    (wellFormed s.params i = true → (i = .rxService → s.rxState = .pending) →
      ∃ t, exec i s = .next t)

/-- The stops by name: an operation of the other unit (R77) and a DATA payload above RX_MAX_BYTES (R28,
R77; log 15). -/
def Obligations.StopsByName : Prop :=
  ∀ (i : Instr) (s : State),
    (∀ r, unitOf i = some r → s.params.role ≠ r → exec i s = .refused .otherUnit) ∧
    (∀ bytes rssi snr, i = .rxDoneData bytes rssi snr → s.params.role = .rx →
      s.params.rxMaxBytes < bytes.length → exec i s = .refused .payloadTooLong)

/-- No step writes the configuration (R38), and an operation never touches the elements of the unit the
instance does not hold (R2). -/
def Obligations.ConfigurationAndOtherUnitUntouched : Prop :=
  ∀ s t : State, step s = .next t → t.params = s.params ∧
    (s.params.role = .tx → t.rxStarted = s.rxStarted ∧ t.rxState = s.rxState ∧
      t.rxLatch = s.rxLatch ∧ t.rxBadCount = s.rxBadCount) ∧
    (s.params.role = .rx → t.txStarted = s.txStarted ∧ t.channelFree = s.channelFree ∧
      t.seq = s.seq ∧ t.txBuf = s.txBuf)

/-! ### Invariants, the contract, the link -/

/-- The invariant of a unit, and that of the forwarding order, hold at power-on, in either role
(R37, R200). -/
def Obligations.UnitInvariantAtPowerOn : Prop :=
  ∀ p : Params, Inv (State.powerOn p) ∧ ForwardsLatched (State.powerOn p)

/-- Every step keeps the invariant of a unit (R21 to R29, R117, R118, R120). -/
def Obligations.StepKeepsUnitInvariant : Prop :=
  ∀ s t : State, Inv s → step s = .next t → Inv t

/-- A unit keeps at most one operation outstanding at its transport (R176): no step begins a transmit or a
receive while one is outstanding. The one slot of a TX unit is occupied exactly while a transmit is
outstanding (R23). -/
def Obligations.OneOperationOutstanding : Prop :=
  ∀ (p : Params) (events : List Event) (k : Nat) (t : State),
    run k { State.powerOn p with inbox := events } = .next t →
    oneAtATime t.trace = true ∧
    ((transportOf t.trace).sending.isSome && (transportOf t.trace).listening) = false ∧
    (p.role = .tx → slotOccupancy t = (transportOf t.trace).sending.toList.length)

/-- A notification the transport's contract allows is never ignored: a TX_DONE completes and an RX_DONE is
latched (R116, R122, R171, R172). -/
def Obligations.AllowedNotificationsAreTaken : Prop :=
  ∀ (i : Instr) (s t : State), Inv s → (transportOf s.trace).permits i = true →
    exec i s = .next t →
    ((∃ status, i = .txDone status) → t.trace.head?.map (·.tag) = some .completed) ∧
    (i ∈ [Instr.rxDoneTimeout, .rxDoneIntegrityFail, .rxDoneHeaderFail, .rxDoneTransportError] ∨
        (∃ bytes rssi snr, i = .rxDoneData bytes rssi snr) →
      t.trace.head?.map (·.tag) = some .latched)

/-- In any run of a system of two units, both transports keep their contracts (R171, R172, R174, R175). -/
def Obligations.SystemKeepsContracts : Prop :=
  ∀ (seqInit : Word32) (rxMaxBytes : Nat) (events : List SystemEvent) (sys : System),
    (System.powerOn seqInit rxMaxBytes).run events = some sys →
    contractKept sys.car.trace = true ∧ contractKept sys.ground.trace = true

/-- A frame admitted by a TX unit, delivered intact to an armed RX unit and serviced there, is recorded
with its packetId, its canId, its clamped length and its payload (R106, R111, R121, R134, R174). -/
def Obligations.IntactFrameIsRecorded : Prop :=
  ∀ (f : CanFrame) (rssi snr : LQ) (car ground : State),
    car.params.role = .tx → car.txStarted = true → car.channelFree = true →
    ground.params.role = .rx → ground.rxStarted = true → ground.rxState = .armed →
    15 ≤ ground.params.rxMaxBytes →
    ∃ car' packet notice ground' ground'' r,
      exec (.canFrame f) car = .next car' ∧
      transmitted car'.trace = transmitted car.trace ++ [packet] ∧
      arrival true packet (.intact rssi snr) = some notice ∧
      exec notice ground = .next ground' ∧ exec .rxService ground' = .next ground'' ∧
      recorded ground''.trace = recorded ground.trace ++ [r] ∧
      r.packetId = car.seq ∧ r.canId = canIdOf f.id ∧ r.len = lenOf f.length ∧
      r.data = f.data.toList.take f.length.toNat ∧ r.rssi = rssi ∧ r.snr = snr

/-- R54: in any run of a TX unit and an RX unit over a link that alters no packet, what the RX unit records
is, in order, among what the TX unit transmitted, each packet at most once. -/
def Obligations.RecordsFollowTransmissions : Prop :=
  ∀ (seqInit : Word32) (rxMaxBytes : Nat) (events : List SystemEvent) (sys : System),
    events.all unaltered = true → (System.powerOn seqInit rxMaxBytes).run events = some sys →
    ((recorded sys.ground.trace).map stripLq).Sublist
      ((transmitted sys.car.trace).map recordOfPacket)

/-- R54: where the TX unit is not reset on the way, the packetIds the RX unit records are taken in order,
with gaps, from SEQ_INIT, SEQ_INIT + 1, ..., one for each packet the TX unit transmitted. -/
def Obligations.RecordedIdsAscendWithGaps : Prop :=
  ∀ (seqInit : Word32) (rxMaxBytes : Nat) (events : List SystemEvent) (sys : System),
    events.all unaltered = true → events.all notCarReset = true →
    (System.powerOn seqInit rxMaxBytes).run events = some sys →
    ((recorded sys.ground.trace).map (·.packetId)).Sublist
      (consecutive seqInit (transmitted sys.car.trace).length)

/-- R116: the packet of a failed transmit is lost. What the RX unit records is, in order, among the packets
whose transmit the transport has not reported failed. -/
def Obligations.FailedTransmitIsNotRecorded : Prop :=
  ∀ (seqInit : Word32) (rxMaxBytes : Nat) (events : List SystemEvent) (sys : System),
    events.all unaltered = true → (System.powerOn seqInit rxMaxBytes).run events = some sys →
    ((recorded sys.ground.trace).map stripLq).Sublist
      ((surviving sys.car.trace).map recordOfPacket)
end

