-- ==== Sys2Proof/Laws/Decode.lean ====
section
/-! SUPPORT. The small facts about the decoder's parts. -/

namespace Sys2Proof

theorem frameData_toList (v : Vector Byte 8) : frameData v.toList = some v := by
  unfold frameData
  simp [Vector.toList]

theorem frameData_some {data : List Byte} {v : Vector Byte 8} (h : frameData data = some v) :
    v.toList = data := by
  unfold frameData at h
  split at h
  · cases h; rfl
  · cases h

theorem frameData_isSome {data : List Byte} : (frameData data).isSome ↔ data.length = 8 := by
  unfold frameData
  split <;> simp_all

/-- An event word is its two fields (R70). -/
theorem word_eq_sub_op (w : Byte) : w = subField w ++ opField w := by
  revert w; decide

theorem decodeBare_ok {p : Payload} {i j : Instr} (h : decodeBare p j = .ok i) :
    p = .empty ∧ i = j := by
  cases p <;> simp_all [decodeBare]

theorem decodeNoSub_ok {sub : BitVec 4} {p : Payload} {i j : Instr}
    (h : decodeNoSub sub p j = .ok i) : sub = 0 ∧ p = .empty ∧ i = j := by
  unfold decodeNoSub at h
  split at h
  · exact ⟨‹_›, decodeBare_ok h⟩
  · cases h

end Sys2Proof
end

