-- ==== Sys2Proof/Laws/Memory.lean ====
section
/-! SUPPORT. The transmit buffer keeps its canonical form under every operation, and so does every update
of the state. -/

namespace Sys2Proof.Machine

open Sys2Proof

theorem Memory.wfFrom_mono {lo lo' size : Nat} {m : Memory} (h : Memory.wfFrom lo size m = true)
    (hl : lo' ≤ lo) : Memory.wfFrom lo' size m = true := by
  cases m with
  | nil => rfl
  | cons c m =>
    obtain ⟨a, b⟩ := c
    simp only [Memory.wfFrom, Bool.and_eq_true, decide_eq_true_eq] at h ⊢
    exact ⟨⟨by omega, h.1.2⟩, h.2⟩

theorem Memory.wfFrom_write {lo size a : Nat} {m : Memory} (b : Byte)
    (h : Memory.wfFrom lo size m = true) (hlo : lo ≤ a) (ha : a < size) :
    Memory.wfFrom lo size (Memory.write m a b) = true := by
  induction m generalizing lo with
  | nil => simp [Memory.write, Memory.wfFrom, hlo, ha]
  | cons c m ih =>
    obtain ⟨k, v⟩ := c
    simp only [Memory.wfFrom, Bool.and_eq_true, decide_eq_true_eq] at h
    obtain ⟨⟨hk, hks⟩, hm⟩ := h
    unfold Memory.write
    split
    · rename_i hlt
      simp only [Memory.wfFrom, Bool.and_eq_true, decide_eq_true_eq]
      exact ⟨⟨hlo, ha⟩, ⟨by omega, hks⟩, hm⟩
    · split
      · rename_i hne heq
        subst heq
        simp only [Memory.wfFrom, Bool.and_eq_true, decide_eq_true_eq]
        exact ⟨⟨hlo, ha⟩, hm⟩
      · rename_i hnlt hne
        simp only [Memory.wfFrom, Bool.and_eq_true, decide_eq_true_eq]
        exact ⟨⟨hk, hks⟩, ih hm (by omega)⟩

/-- A write inside the buffer keeps its canonical form. -/
theorem Memory.wf_write {a : Nat} {m : Memory} (b : Byte) (h : m.wf = true) (ha : a < pktSize) :
    (Memory.write m a b).wf = true :=
  Memory.wfFrom_write b h (Nat.zero_le a) ha

/-- A sequence of writes inside the buffer keeps its canonical form. -/
theorem Memory.wf_writeBytes {a : Nat} {m : Memory} {bs : List Byte} (h : m.wf = true)
    (ha : a + bs.length ≤ pktSize) : (Memory.writeBytes m a bs).wf = true := by
  induction bs generalizing m a with
  | nil => exact h
  | cons b bs ih =>
    simp only [List.length_cons] at ha
    exact ih (Memory.wf_write b h (by omega)) (by omega)

@[simp] theorem memWrite_length (buf : List Byte) (off n v : Nat) :
    (memWrite buf off n v).length = buf.length := by
  induction n generalizing buf off v with
  | zero => rfl
  | succ n ih => simp [memWrite, ih]

@[simp] theorem memWriteEach_length (buf : List Byte) (off : Nat) (bs : List Byte) :
    (memWriteEach buf off bs).length = buf.length := by
  induction bs generalizing buf off with
  | nil => rfl
  | cons b bs ih => rw [memWriteEach, ih, memWrite_length]

/-- A packet always has 15 bytes (R61). -/
@[simp] theorem serialize_length (pid : Word32) (f : CanFrame) : (serialize pid f).length = 15 := by
  simp [serialize, pktSize]

/-- The free contents of the transmit buffer are canonical. -/
@[simp] theorem freeTxBuf_wf (draw : Nat) : (freeTxBuf draw).wf = true := rfl

/-- The free contents of the transmit buffer fill it, and nothing else. -/
theorem freeTxBuf_read (draw a : Nat) :
    Memory.read (freeTxBuf draw) a = if a < 15 then some (Config.freeTxByte draw a) else none := by
  by_cases h : a < 15
  · rw [if_pos h]
    interval_cases a <;> rfl
  · rw [if_neg h]
    simp only [freeTxBuf, pktSize, List.range, List.range.loop, List.map, Memory.read]
    repeat rw [if_neg (by omega)]

/-- An admission keeps the buffer canonical. -/
theorem admit_wf {s : State} (pid : Word32) (f : CanFrame) (h : s.txBuf.wf = true) :
    (s.admitFrame (serialize pid f)).txBuf.wf = true :=
  Memory.wf_writeBytes h (by simp [pktSize])

/-- A RESET keeps the buffer canonical. -/
theorem resetTx_wf {s : State} : s.resetTx.txBuf.wf = true := freeTxBuf_wf _

/-- The buffer at power-on is canonical. -/
theorem powerOn_txBuf_wf (p : Params) : (State.powerOn p).txBuf.wf = true := rfl

/-- The buffer of `State.reset` is canonical. -/
theorem reset_txBuf_wf : State.reset.txBuf.wf = true := rfl

/-- A byte sequence fits a bound exactly when it is no longer than it. -/
theorem fits_iff {bs : List Byte} {n : Nat} : fits bs n = true ↔ bs.length ≤ n := by
  induction bs generalizing n with
  | nil => simp [fits]
  | cons b bs ih =>
    cases n with
    | zero => simp [fits]
    | succ n => simp [fits, ih]

/-- The free bytes of a latch keep the bound of R28. -/
theorem freeLatch_bytes_length (s : State) (o : RxOutcome) :
    (freeLatch s o).bytes.length ≤ s.params.rxMaxBytes := by
  simp [freeLatch, List.length_take]

@[simp] theorem freeLatch_outcome (s : State) (o : RxOutcome) : (freeLatch s o).outcome = o := rfl

end Sys2Proof.Machine
end

