-- ==== Sys2Proof/Laws/State.lean ====
section
/-! SUPPORT. One lemma per field per update of the state: what each update writes and what it leaves. -/

namespace Sys2Proof.Machine

open Sys2Proof

variable (s : State)

@[simp] theorem State.consume_params (rest : List Event) : (s.consume rest).params = s.params := rfl
@[simp] theorem State.consume_txStarted (rest : List Event) :
    (s.consume rest).txStarted = s.txStarted := rfl
@[simp] theorem State.consume_channelFree (rest : List Event) :
    (s.consume rest).channelFree = s.channelFree := rfl
@[simp] theorem State.consume_seq (rest : List Event) : (s.consume rest).seq = s.seq := rfl
@[simp] theorem State.consume_txBuf (rest : List Event) : (s.consume rest).txBuf = s.txBuf := rfl
@[simp] theorem State.consume_rxStarted (rest : List Event) :
    (s.consume rest).rxStarted = s.rxStarted := rfl
@[simp] theorem State.consume_rxState (rest : List Event) :
    (s.consume rest).rxState = s.rxState := rfl
@[simp] theorem State.consume_rxLatch (rest : List Event) :
    (s.consume rest).rxLatch = s.rxLatch := rfl
@[simp] theorem State.consume_rxBadCount (rest : List Event) :
    (s.consume rest).rxBadCount = s.rxBadCount := rfl
@[simp] theorem State.consume_inbox (rest : List Event) : (s.consume rest).inbox = rest := rfl
@[simp] theorem State.consume_trace (rest : List Event) : (s.consume rest).trace = s.trace := rfl
@[simp] theorem State.consume_draws (rest : List Event) : (s.consume rest).draws = s.draws := rfl

@[simp] theorem State.startTx_params : s.startTx.params = s.params := rfl
@[simp] theorem State.startTx_txStarted : s.startTx.txStarted = true := rfl
@[simp] theorem State.startTx_channelFree : s.startTx.channelFree = s.channelFree := rfl
@[simp] theorem State.startTx_seq : s.startTx.seq = s.seq := rfl
@[simp] theorem State.startTx_txBuf : s.startTx.txBuf = s.txBuf := rfl
@[simp] theorem State.startTx_rxStarted : s.startTx.rxStarted = s.rxStarted := rfl
@[simp] theorem State.startTx_rxState : s.startTx.rxState = s.rxState := rfl
@[simp] theorem State.startTx_rxLatch : s.startTx.rxLatch = s.rxLatch := rfl
@[simp] theorem State.startTx_rxBadCount : s.startTx.rxBadCount = s.rxBadCount := rfl
@[simp] theorem State.startTx_inbox : s.startTx.inbox = s.inbox := rfl
@[simp] theorem State.startTx_trace : s.startTx.trace = s.trace := rfl
@[simp] theorem State.startTx_draws : s.startTx.draws = s.draws := rfl

@[simp] theorem State.startRx_params : s.startRx.params = s.params := rfl
@[simp] theorem State.startRx_txStarted : s.startRx.txStarted = s.txStarted := rfl
@[simp] theorem State.startRx_channelFree : s.startRx.channelFree = s.channelFree := rfl
@[simp] theorem State.startRx_seq : s.startRx.seq = s.seq := rfl
@[simp] theorem State.startRx_txBuf : s.startRx.txBuf = s.txBuf := rfl
@[simp] theorem State.startRx_rxStarted : s.startRx.rxStarted = true := rfl
@[simp] theorem State.startRx_rxState : s.startRx.rxState = .armed := rfl
@[simp] theorem State.startRx_rxLatch : s.startRx.rxLatch = s.rxLatch := rfl
@[simp] theorem State.startRx_rxBadCount : s.startRx.rxBadCount = s.rxBadCount := rfl
@[simp] theorem State.startRx_inbox : s.startRx.inbox = s.inbox := rfl
@[simp] theorem State.startRx_trace : s.startRx.trace = s.trace := rfl
@[simp] theorem State.startRx_draws : s.startRx.draws = s.draws := rfl

@[simp] theorem State.admitFrame_params (p : List Byte) : (s.admitFrame p).params = s.params := rfl
@[simp] theorem State.admitFrame_txStarted (p : List Byte) : (s.admitFrame p).txStarted = s.txStarted := rfl
@[simp] theorem State.admitFrame_channelFree (p : List Byte) : (s.admitFrame p).channelFree = false := rfl
@[simp] theorem State.admitFrame_seq (p : List Byte) : (s.admitFrame p).seq = s.seq + 1 := rfl
@[simp] theorem State.admitFrame_txBuf (p : List Byte) :
    (s.admitFrame p).txBuf = s.txBuf.writeBytes 0 p := rfl
@[simp] theorem State.admitFrame_rxStarted (p : List Byte) : (s.admitFrame p).rxStarted = s.rxStarted := rfl
@[simp] theorem State.admitFrame_rxState (p : List Byte) : (s.admitFrame p).rxState = s.rxState := rfl
@[simp] theorem State.admitFrame_rxLatch (p : List Byte) : (s.admitFrame p).rxLatch = s.rxLatch := rfl
@[simp] theorem State.admitFrame_rxBadCount (p : List Byte) :
    (s.admitFrame p).rxBadCount = s.rxBadCount := rfl
@[simp] theorem State.admitFrame_inbox (p : List Byte) : (s.admitFrame p).inbox = s.inbox := rfl
@[simp] theorem State.admitFrame_trace (p : List Byte) : (s.admitFrame p).trace = s.trace := rfl
@[simp] theorem State.admitFrame_draws (p : List Byte) : (s.admitFrame p).draws = s.draws := rfl

@[simp] theorem State.freeChannel_params : s.freeChannel.params = s.params := rfl
@[simp] theorem State.freeChannel_txStarted : s.freeChannel.txStarted = s.txStarted := rfl
@[simp] theorem State.freeChannel_channelFree : s.freeChannel.channelFree = true := rfl
@[simp] theorem State.freeChannel_seq : s.freeChannel.seq = s.seq := rfl
@[simp] theorem State.freeChannel_txBuf : s.freeChannel.txBuf = s.txBuf := rfl
@[simp] theorem State.freeChannel_rxStarted : s.freeChannel.rxStarted = s.rxStarted := rfl
@[simp] theorem State.freeChannel_rxState : s.freeChannel.rxState = s.rxState := rfl
@[simp] theorem State.freeChannel_rxLatch : s.freeChannel.rxLatch = s.rxLatch := rfl
@[simp] theorem State.freeChannel_rxBadCount : s.freeChannel.rxBadCount = s.rxBadCount := rfl
@[simp] theorem State.freeChannel_inbox : s.freeChannel.inbox = s.inbox := rfl
@[simp] theorem State.freeChannel_trace : s.freeChannel.trace = s.trace := rfl
@[simp] theorem State.freeChannel_draws : s.freeChannel.draws = s.draws := rfl

@[simp] theorem State.latch_params (l : RxLatch) : (s.latch l).params = s.params := rfl
@[simp] theorem State.latch_txStarted (l : RxLatch) : (s.latch l).txStarted = s.txStarted := rfl
@[simp] theorem State.latch_channelFree (l : RxLatch) :
    (s.latch l).channelFree = s.channelFree := rfl
@[simp] theorem State.latch_seq (l : RxLatch) : (s.latch l).seq = s.seq := rfl
@[simp] theorem State.latch_txBuf (l : RxLatch) : (s.latch l).txBuf = s.txBuf := rfl
@[simp] theorem State.latch_rxStarted (l : RxLatch) : (s.latch l).rxStarted = s.rxStarted := rfl
@[simp] theorem State.latch_rxState (l : RxLatch) : (s.latch l).rxState = .pending := rfl
@[simp] theorem State.latch_rxLatch (l : RxLatch) : (s.latch l).rxLatch = l := rfl
@[simp] theorem State.latch_rxBadCount (l : RxLatch) : (s.latch l).rxBadCount = s.rxBadCount := rfl
@[simp] theorem State.latch_inbox (l : RxLatch) : (s.latch l).inbox = s.inbox := rfl
@[simp] theorem State.latch_trace (l : RxLatch) : (s.latch l).trace = s.trace := rfl
@[simp] theorem State.latch_draws (l : RxLatch) : (s.latch l).draws = s.draws := rfl

@[simp] theorem State.rearm_params : s.rearm.params = s.params := rfl
@[simp] theorem State.rearm_txStarted : s.rearm.txStarted = s.txStarted := rfl
@[simp] theorem State.rearm_channelFree : s.rearm.channelFree = s.channelFree := rfl
@[simp] theorem State.rearm_seq : s.rearm.seq = s.seq := rfl
@[simp] theorem State.rearm_txBuf : s.rearm.txBuf = s.txBuf := rfl
@[simp] theorem State.rearm_rxStarted : s.rearm.rxStarted = s.rxStarted := rfl
@[simp] theorem State.rearm_rxState : s.rearm.rxState = .armed := rfl
@[simp] theorem State.rearm_rxLatch : s.rearm.rxLatch = s.rxLatch := rfl
@[simp] theorem State.rearm_rxBadCount : s.rearm.rxBadCount = s.rxBadCount := rfl
@[simp] theorem State.rearm_inbox : s.rearm.inbox = s.inbox := rfl
@[simp] theorem State.rearm_trace : s.rearm.trace = s.trace := rfl
@[simp] theorem State.rearm_draws : s.rearm.draws = s.draws := rfl

@[simp] theorem State.countBad_params : s.countBad.params = s.params := rfl
@[simp] theorem State.countBad_txStarted : s.countBad.txStarted = s.txStarted := rfl
@[simp] theorem State.countBad_channelFree : s.countBad.channelFree = s.channelFree := rfl
@[simp] theorem State.countBad_seq : s.countBad.seq = s.seq := rfl
@[simp] theorem State.countBad_txBuf : s.countBad.txBuf = s.txBuf := rfl
@[simp] theorem State.countBad_rxStarted : s.countBad.rxStarted = s.rxStarted := rfl
@[simp] theorem State.countBad_rxState : s.countBad.rxState = s.rxState := rfl
@[simp] theorem State.countBad_rxLatch : s.countBad.rxLatch = s.rxLatch := rfl
@[simp] theorem State.countBad_rxBadCount : s.countBad.rxBadCount = s.rxBadCount + 1 := rfl
@[simp] theorem State.countBad_inbox : s.countBad.inbox = s.inbox := rfl
@[simp] theorem State.countBad_trace : s.countBad.trace = s.trace := rfl
@[simp] theorem State.countBad_draws : s.countBad.draws = s.draws := rfl

@[simp] theorem State.draw_params : s.draw.params = s.params := rfl
@[simp] theorem State.draw_txStarted : s.draw.txStarted = s.txStarted := rfl
@[simp] theorem State.draw_channelFree : s.draw.channelFree = s.channelFree := rfl
@[simp] theorem State.draw_seq : s.draw.seq = s.seq := rfl
@[simp] theorem State.draw_txBuf : s.draw.txBuf = s.txBuf := rfl
@[simp] theorem State.draw_rxStarted : s.draw.rxStarted = s.rxStarted := rfl
@[simp] theorem State.draw_rxState : s.draw.rxState = s.rxState := rfl
@[simp] theorem State.draw_rxLatch : s.draw.rxLatch = s.rxLatch := rfl
@[simp] theorem State.draw_rxBadCount : s.draw.rxBadCount = s.rxBadCount := rfl
@[simp] theorem State.draw_inbox : s.draw.inbox = s.inbox := rfl
@[simp] theorem State.draw_trace : s.draw.trace = s.trace := rfl
@[simp] theorem State.draw_draws : s.draw.draws = s.draws + 1 := rfl

@[simp] theorem State.resetTx_params : s.resetTx.params = s.params := rfl
@[simp] theorem State.resetTx_txStarted : s.resetTx.txStarted = false := rfl
@[simp] theorem State.resetTx_channelFree : s.resetTx.channelFree = true := rfl
@[simp] theorem State.resetTx_seq : s.resetTx.seq = s.params.seqInit := rfl
@[simp] theorem State.resetTx_txBuf : s.resetTx.txBuf = freeTxBuf s.draws := rfl
@[simp] theorem State.resetTx_rxStarted : s.resetTx.rxStarted = s.rxStarted := rfl
@[simp] theorem State.resetTx_rxState : s.resetTx.rxState = s.rxState := rfl
@[simp] theorem State.resetTx_rxLatch : s.resetTx.rxLatch = s.rxLatch := rfl
@[simp] theorem State.resetTx_rxBadCount : s.resetTx.rxBadCount = s.rxBadCount := rfl
@[simp] theorem State.resetTx_inbox : s.resetTx.inbox = s.inbox := rfl
@[simp] theorem State.resetTx_trace : s.resetTx.trace = s.trace := rfl
@[simp] theorem State.resetTx_draws : s.resetTx.draws = s.draws + 1 := rfl

@[simp] theorem State.resetRx_params : s.resetRx.params = s.params := rfl
@[simp] theorem State.resetRx_txStarted : s.resetRx.txStarted = s.txStarted := rfl
@[simp] theorem State.resetRx_channelFree : s.resetRx.channelFree = s.channelFree := rfl
@[simp] theorem State.resetRx_seq : s.resetRx.seq = s.seq := rfl
@[simp] theorem State.resetRx_txBuf : s.resetRx.txBuf = s.txBuf := rfl
@[simp] theorem State.resetRx_rxStarted : s.resetRx.rxStarted = false := rfl
@[simp] theorem State.resetRx_rxState : s.resetRx.rxState = .idle := rfl
@[simp] theorem State.resetRx_rxLatch :
    s.resetRx.rxLatch = freeLatch s (rxOutcomeOf (Config.freeOutcome s.draws)) := rfl
@[simp] theorem State.resetRx_rxBadCount : s.resetRx.rxBadCount = 0 := rfl
@[simp] theorem State.resetRx_inbox : s.resetRx.inbox = s.inbox := rfl
@[simp] theorem State.resetRx_trace : s.resetRx.trace = s.trace := rfl
@[simp] theorem State.resetRx_draws : s.resetRx.draws = s.draws + 1 := rfl

@[simp] theorem State.note_params (i : Instr) (g : Tag) (as : List Action) :
    (s.note i g as).params = s.params := rfl
@[simp] theorem State.note_txStarted (i : Instr) (g : Tag) (as : List Action) :
    (s.note i g as).txStarted = s.txStarted := rfl
@[simp] theorem State.note_channelFree (i : Instr) (g : Tag) (as : List Action) :
    (s.note i g as).channelFree = s.channelFree := rfl
@[simp] theorem State.note_seq (i : Instr) (g : Tag) (as : List Action) :
    (s.note i g as).seq = s.seq := rfl
@[simp] theorem State.note_txBuf (i : Instr) (g : Tag) (as : List Action) :
    (s.note i g as).txBuf = s.txBuf := rfl
@[simp] theorem State.note_rxStarted (i : Instr) (g : Tag) (as : List Action) :
    (s.note i g as).rxStarted = s.rxStarted := rfl
@[simp] theorem State.note_rxState (i : Instr) (g : Tag) (as : List Action) :
    (s.note i g as).rxState = s.rxState := rfl
@[simp] theorem State.note_rxLatch (i : Instr) (g : Tag) (as : List Action) :
    (s.note i g as).rxLatch = s.rxLatch := rfl
@[simp] theorem State.note_rxBadCount (i : Instr) (g : Tag) (as : List Action) :
    (s.note i g as).rxBadCount = s.rxBadCount := rfl
@[simp] theorem State.note_inbox (i : Instr) (g : Tag) (as : List Action) :
    (s.note i g as).inbox = s.inbox := rfl
@[simp] theorem State.note_trace (i : Instr) (g : Tag) (as : List Action) :
    (s.note i g as).trace = ⟨i, g, as⟩ :: s.trace := rfl
@[simp] theorem State.note_draws (i : Instr) (g : Tag) (as : List Action) :
    (s.note i g as).draws = s.draws := rfl

end Sys2Proof.Machine
end

