-- ==== Sys2Proof/Laws/Ops.lean ====
section
/-! SUPPORT. What each shared operation and each meaning can do, said once: if it answers a next state,
which one. -/

namespace Sys2Proof.Machine

open Sys2Proof

variable {s t : State} {i : Instr}

theorem conclude_next {g : Tag} {as : List Action} (h : s.conclude i g as = .next t) :
    t = s.note i g as := by
  simpa [State.conclude] using h.symm

theorem ignore_next (h : s.ignore i = .next t) : t = s.note i .ignored [] := conclude_next h

theorem atUnit_next {r : Role} {k : Result} (h : s.atUnit r k = .next t) :
    s.params.role = r ∧ k = .next t := by
  unfold State.atUnit at h
  split at h
  · exact ⟨‹_›, h⟩
  · cases h

theorem atUnit_of_role {r : Role} {k : Result} (h : s.params.role = r) : s.atUnit r k = k :=
  if_pos h

theorem execReset_next (h : execReset s = .next t) :
    (s.params.role = .tx ∧ t = s.resetTx.note .reset .reset []) ∨
    (s.params.role = .rx ∧ t = s.resetRx.note .reset .reset []) := by
  unfold execReset at h
  split at h
  · exact .inl ⟨‹_›, conclude_next h⟩
  · exact .inr ⟨‹_›, conclude_next h⟩

theorem execStart_next (h : execStart s = .next t) :
    (s.params.role = .tx ∧ s.txStarted = true ∧ t = s.note .start .ignored []) ∨
    (s.params.role = .tx ∧ s.txStarted = false ∧ t = s.startTx.note .start .started []) ∨
    (s.params.role = .rx ∧ s.rxStarted = true ∧ t = s.note .start .ignored []) ∨
    (s.params.role = .rx ∧ s.rxStarted = false ∧
      t = s.startRx.note .start .started [.beginReceive]) := by
  unfold execStart at h
  split at h
  · unfold startTxUnit at h
    split at h
    · exact .inl ⟨‹_›, ‹_›, ignore_next h⟩
    · exact .inr (.inl ⟨‹_›, by simpa using ‹¬ s.txStarted = true›, conclude_next h⟩)
  · unfold startRxUnit at h
    split at h
    · exact .inr (.inr (.inl ⟨‹_›, ‹_›, ignore_next h⟩))
    · exact .inr (.inr (.inr ⟨‹_›, by simpa using ‹¬ s.rxStarted = true›, conclude_next h⟩))

theorem execCanFrame_next {f : CanFrame} (h : execCanFrame f s = .next t) :
    s.params.role = .tx ∧
    ((s.txStarted = false ∧ t = s.note (.canFrame f) .ignored []) ∨
     (s.txStarted = true ∧ s.channelFree = false ∧ t = s.note (.canFrame f) .dropped []) ∨
     (s.txStarted = true ∧ s.channelFree = true ∧
       t = (s.admitFrame (serialize s.seq f)).note (.canFrame f) .admitted
         [.beginTransmit (serialize s.seq f)])) := by
  obtain ⟨hr, h⟩ := atUnit_next h
  refine ⟨hr, ?_⟩
  split at h
  · unfold admitOrDrop at h
    split at h
    · exact .inr (.inr ⟨‹_›, ‹_›, conclude_next h⟩)
    · exact .inr (.inl ⟨‹_›, by simpa using ‹¬ s.channelFree = true›, conclude_next h⟩)
  · exact .inl ⟨by simpa using ‹¬ s.txStarted = true›, ignore_next h⟩

theorem execTxDone_next {x : TxStatus} (h : execTxDone x s = .next t) :
    s.params.role = .tx ∧
    ((s.txStarted = false ∧ t = s.note (.txDone x) .ignored []) ∨
     (s.txStarted = true ∧ t = s.freeChannel.note (.txDone x) .completed [])) := by
  obtain ⟨hr, h⟩ := atUnit_next h
  refine ⟨hr, ?_⟩
  split at h
  · exact .inr ⟨‹_›, conclude_next h⟩
  · exact .inl ⟨by simpa using ‹¬ s.txStarted = true›, ignore_next h⟩

theorem latchReport_next {latched : State} (h : latchReport i s latched = .next t) :
    (s.rxStarted = true ∧ s.rxState = .armed ∧ t = latched.note i .latched []) ∨
    ((s.rxStarted = false ∨ s.rxState ≠ .armed) ∧ t = s.note i .ignored []) := by
  unfold latchReport at h
  split at h
  · rename_i hc
    simp only [Bool.and_eq_true, decide_eq_true_eq] at hc
    exact .inl ⟨hc.1, hc.2, conclude_next h⟩
  · rename_i hc
    simp only [Bool.and_eq_true, decide_eq_true_eq, not_and] at hc
    refine .inr ⟨?_, ignore_next h⟩
    cases hs : s.rxStarted with
    | false => exact .inl rfl
    | true => exact .inr (hc hs)

theorem latchOutcome_next {o : RxOutcome} (h : latchOutcome i o s = .next t) :
    s.params.role = .rx ∧
    ((s.rxStarted = true ∧ s.rxState = .armed ∧
        t = (s.latch (freeLatch s o)).draw.note i .latched []) ∨
     ((s.rxStarted = false ∨ s.rxState ≠ .armed) ∧ t = s.note i .ignored [])) := by
  obtain ⟨hr, h⟩ := atUnit_next h
  exact ⟨hr, latchReport_next h⟩

theorem execRxDoneData_next {bs : List Byte} {r q : LQ} (h : execRxDoneData bs r q s = .next t) :
    s.params.role = .rx ∧ fits bs s.params.rxMaxBytes = true ∧
    ((s.rxStarted = true ∧ s.rxState = .armed ∧
        t = (s.latch ⟨.data, bs, r, q⟩).note (.rxDoneData bs r q) .latched []) ∨
     ((s.rxStarted = false ∨ s.rxState ≠ .armed) ∧
        t = s.note (.rxDoneData bs r q) .ignored [])) := by
  obtain ⟨hr, h⟩ := atUnit_next h
  split at h
  · exact ⟨hr, ‹_›, latchReport_next h⟩
  · cases h

theorem execRxService_next (h : execRxService s = .next t) :
    s.params.role = .rx ∧ s.rxState = .pending ∧
    t = (s.countVerdict (judge s.rxLatch)).rearm.note .rxService (verdictTag (judge s.rxLatch))
      (verdictActions (judge s.rxLatch) ++ [.beginReceive]) := by
  obtain ⟨hr, h⟩ := atUnit_next h
  split at h
  · exact ⟨hr, ‹_›, conclude_next h⟩
  · cases h

theorem execRegRead_next {r : BitVec 4} (h : execRegRead r s = .next t) :
    t = s.note (.regRead r) .read [.regData (regValue s r)] := conclude_next h

/-- What one step can do: run a decoded event, serve the latch, or idle. -/
theorem step_next (h : step s = .next t) :
    (∃ e rest i, s.inbox = e :: rest ∧ decode e.word e.payload = .ok i ∧
      exec i (s.consume rest) = .next t) ∨
    (s.inbox = [] ∧ s.params.role = .rx ∧ s.rxState = .pending ∧ exec .rxService s = .next t) ∨
    (s.inbox = [] ∧ t = s) := by
  unfold step at h
  split at h
  · rename_i hi
    unfold takeOwn at h
    split at h
    · exact .inr (.inl ⟨hi, ‹_›, ‹_›, h⟩)
    · exact .inr (.inr ⟨hi, by simpa using h.symm⟩)
  · rename_i e rest hi
    unfold takeEvent at h
    split at h
    · exact .inl ⟨e, rest, _, hi, ‹_›, h⟩
    · cases h

/-- A non-DATA outcome and a DATA transfer are judged apart: only DATA is forwarded. -/
theorem judge_forward {l : RxLatch} {r : Record} (h : judge l = .forward r) :
    l.outcome = .data ∧ l.bytes.length = pktSize ∧ memRead l.bytes 6 1 ≤ maxLen ∧
    r = recordOf (deserialize l.bytes) l.rssi l.snr := by
  unfold judge at h
  split at h <;> try cases h
  rename_i ho
  unfold judgeData at h
  split at h
  · split at h
    · exact ⟨ho, ‹_›, ‹_›, by simpa using h.symm⟩
    · cases h
  · cases h

@[simp] theorem State.countVerdict_params (v : Verdict) :
    (s.countVerdict v).params = s.params := by cases v <;> rfl

@[simp] theorem State.countVerdict_txStarted (v : Verdict) :
    (s.countVerdict v).txStarted = s.txStarted := by cases v <;> rfl

@[simp] theorem State.countVerdict_channelFree (v : Verdict) :
    (s.countVerdict v).channelFree = s.channelFree := by cases v <;> rfl

@[simp] theorem State.countVerdict_seq (v : Verdict) :
    (s.countVerdict v).seq = s.seq := by cases v <;> rfl

@[simp] theorem State.countVerdict_txBuf (v : Verdict) :
    (s.countVerdict v).txBuf = s.txBuf := by cases v <;> rfl

@[simp] theorem State.countVerdict_rxStarted (v : Verdict) :
    (s.countVerdict v).rxStarted = s.rxStarted := by cases v <;> rfl

@[simp] theorem State.countVerdict_rxState (v : Verdict) :
    (s.countVerdict v).rxState = s.rxState := by cases v <;> rfl

@[simp] theorem State.countVerdict_rxLatch (v : Verdict) :
    (s.countVerdict v).rxLatch = s.rxLatch := by cases v <;> rfl

@[simp] theorem State.countVerdict_inbox (v : Verdict) :
    (s.countVerdict v).inbox = s.inbox := by cases v <;> rfl

@[simp] theorem State.countVerdict_trace (v : Verdict) :
    (s.countVerdict v).trace = s.trace := by cases v <;> rfl

@[simp] theorem State.countVerdict_draws (v : Verdict) :
    (s.countVerdict v).draws = s.draws := by cases v <;> rfl

@[simp] theorem State.countVerdict_rxBadCount (v : Verdict) : (s.countVerdict v).rxBadCount =
    match v with
    | .discard _ => s.rxBadCount + 1
    | .quiet => s.rxBadCount
    | .forward _ => s.rxBadCount := by cases v <;> rfl

/-- The three judgements of a transfer the transport passed (R131, R132, R134). -/
theorem judgeData_cases (bs : List Byte) (r q : LQ) :
    (bs.length ≠ pktSize ∧ judgeData bs r q = .discard .length) ∨
    (bs.length = pktSize ∧ maxLen < memRead bs 6 1 ∧ judgeData bs r q = .discard .lenField) ∨
    (bs.length = pktSize ∧ memRead bs 6 1 ≤ maxLen ∧
      judgeData bs r q = .forward (recordOf (deserialize bs) r q)) := by
  unfold judgeData
  split
  · split
    · exact .inr (.inr ⟨‹_›, ‹_›, rfl⟩)
    · exact .inr (.inl ⟨‹_›, by omega, rfl⟩)
  · exact .inl ⟨‹_›, rfl⟩

/-- Which meaning answered, by the shape of the operation. -/
theorem exec_next (h : exec i s = .next t) :
    (∃ f, i = .canFrame f ∧ execCanFrame f s = .next t) ∨
    (∃ x, i = .txDone x ∧ execTxDone x s = .next t) ∨
    (i = .reset ∧ execReset s = .next t) ∨
    (i = .start ∧ execStart s = .next t) ∨
    (∃ b r q, i = .rxDoneData b r q ∧ execRxDoneData b r q s = .next t) ∨
    (∃ o, (i, o) ∈ [(Instr.rxDoneTimeout, RxOutcome.timeout),
        (.rxDoneIntegrityFail, .integrityFail), (.rxDoneHeaderFail, .headerFail),
        (.rxDoneTransportError, .transportError)] ∧ latchOutcome i o s = .next t) ∨
    (i = .rxService ∧ execRxService s = .next t) ∨
    (∃ r, i = .regRead r ∧ execRegRead r s = .next t) := by
  cases i <;>
    simp_all [exec, execRxDoneTimeout, execRxDoneIntegrityFail, execRxDoneHeaderFail,
      execRxDoneTransportError]

end Sys2Proof.Machine
end

