-- ==== Sys2Proof/Laws/PerInstr.lean ====
section
/-! SUPPORT. Each operation's event word lies under its row of opcode_table.json: its `match` under its
`mask`. -/

namespace Sys2Proof.Laws

open Sys2Proof

/-- The `mask` of an operation's row. -/
def rowMask : Instr → Byte
  | .txDone _ => 0xEF
  | .regRead _ => 0x0F
  | .reset => 0xFF
  | .start => 0xFF
  | .canFrame _ => 0xFF
  | .rxDoneData _ _ _ => 0xFF
  | .rxDoneTimeout => 0xFF
  | .rxDoneIntegrityFail => 0xFF
  | .rxDoneHeaderFail => 0xFF
  | .rxDoneTransportError => 0xFF
  | .rxService => 0xFF

/-- The `match` of an operation's row. -/
def rowMatch : Instr → Byte
  | .reset => 0x01
  | .start => 0x02
  | .canFrame _ => 0x03
  | .txDone _ => 0x04
  | .rxDoneData _ _ _ => 0x05
  | .rxDoneTimeout => 0x15
  | .rxDoneIntegrityFail => 0x25
  | .rxDoneHeaderFail => 0x35
  | .rxDoneTransportError => 0x45
  | .rxService => 0x06
  | .regRead _ => 0x07

def EncodesItsRow.Statement (i : Instr) : Prop := (encode i).word &&& rowMask i = rowMatch i

theorem EncodesItsRow.reset : EncodesItsRow.Statement .reset := rfl

theorem EncodesItsRow.start : EncodesItsRow.Statement .start := rfl

theorem EncodesItsRow.canFrame (f : CanFrame) : EncodesItsRow.Statement (.canFrame f) := by
  show (0x03 : Byte) &&& 0xFF = 0x03
  decide

theorem EncodesItsRow.txDone (x : TxStatus) : EncodesItsRow.Statement (.txDone x) := by
  cases x <;> rfl

theorem EncodesItsRow.rxDoneData (b : List Byte) (r q : LQ) :
    EncodesItsRow.Statement (.rxDoneData b r q) := by
  show (0x05 : Byte) &&& 0xFF = 0x05
  decide

theorem EncodesItsRow.rxDoneTimeout : EncodesItsRow.Statement .rxDoneTimeout := rfl

theorem EncodesItsRow.rxDoneIntegrityFail : EncodesItsRow.Statement .rxDoneIntegrityFail := rfl

theorem EncodesItsRow.rxDoneHeaderFail : EncodesItsRow.Statement .rxDoneHeaderFail := rfl

theorem EncodesItsRow.rxDoneTransportError : EncodesItsRow.Statement .rxDoneTransportError := rfl

theorem EncodesItsRow.rxService : EncodesItsRow.Statement .rxService := rfl

theorem EncodesItsRow.regRead (r : BitVec 4) : EncodesItsRow.Statement (.regRead r) := by
  have h : ∀ r : BitVec 4, (r ++ (0x7 : BitVec 4) : Byte) &&& (0x0F : Byte) = (0x07 : Byte) := by
    decide
  exact h r

end Sys2Proof.Laws
end

