-- ==== Sys2Proof/Laws/Views.lean ====
section
/-! SUPPORT. How the views of a trace grow by one record. -/

namespace Sys2Proof.Machine

open Sys2Proof

variable (r : StepRecord) (older : List StepRecord)

@[simp] theorem emitted_nil : emitted [] = [] := rfl

@[simp] theorem emitted_cons : emitted (r :: older) = emitted older ++ r.actions := rfl

@[simp] theorem transmitted_nil : transmitted [] = [] := rfl

@[simp] theorem transmitted_cons :
    transmitted (r :: older) = transmitted older ++ r.actions.filterMap transmitOf := by
  simp [transmitted]

@[simp] theorem recorded_nil : recorded [] = [] := rfl

@[simp] theorem recorded_cons :
    recorded (r :: older) = recorded older ++ r.actions.filterMap recordIn := by
  simp [recorded]

@[simp] theorem surviving_nil : surviving [] = [] := rfl

/-- A failed transmit takes the last packet away. -/
theorem surviving_cons_failed (h : r.event = .txDone .fail)
    (hs : (transportOf older).sending.isSome = true) :
    surviving (r :: older) = (surviving older).dropLast ++ r.actions.filterMap transmitOf := by
  simp [surviving, h, hs]

/-- Any other record takes none away. -/
theorem surviving_cons (h : r.event ≠ .txDone .fail ∨ (transportOf older).sending = none) :
    surviving (r :: older) = surviving older ++ r.actions.filterMap transmitOf := by
  rcases h with h | h <;> simp [surviving, h]

@[simp] theorem oneAtATime_nil : oneAtATime [] = true := rfl

@[simp] theorem oneAtATime_cons : oneAtATime (r :: older)
    = (oneAtATime older && ((transportOf older).answered r.event).acceptsAll r.actions) := rfl

@[simp] theorem sinceReset_nil : sinceReset [] = [] := rfl

theorem sinceReset_cons_reset (h : r.event = .reset) : sinceReset (r :: older) = [] := if_pos h

theorem sinceReset_cons (h : r.event ≠ .reset) :
    sinceReset (r :: older) = r :: sinceReset older := if_neg h

@[simp] theorem discards_nil : discards [] = 0 := rfl

theorem discards_cons_of (h : isDiscard r = true) : discards (r :: older) = discards older + 1 := by
  simp [discards, h]

theorem discards_cons_not (h : isDiscard r = false) : discards (r :: older) = discards older := by
  simp [discards, h]

@[simp] theorem transportOf_nil : transportOf [] = .quiet := rfl

@[simp] theorem transportOf_cons : transportOf (r :: older) = (transportOf older).follow r := rfl

@[simp] theorem latchedTransfers_nil : latchedTransfers [] = [] := rfl

@[simp] theorem latchedTransfers_cons :
    latchedTransfers (r :: older) = latchedTransfers older ++ (latchedTransfer r).toList := rfl

@[simp] theorem transmitOf_beginTransmit (b : List Byte) : transmitOf (.beginTransmit b) = some b := rfl

@[simp] theorem transmitOf_beginReceive : transmitOf .beginReceive = none := rfl

@[simp] theorem transmitOf_record (x : Record) : transmitOf (.record x) = none := rfl

@[simp] theorem transmitOf_regData (v : Word32) : transmitOf (.regData v) = none := rfl

@[simp] theorem recordIn_beginTransmit (b : List Byte) : recordIn (.beginTransmit b) = none := rfl

@[simp] theorem recordIn_beginReceive : recordIn .beginReceive = none := rfl

@[simp] theorem recordIn_record (x : Record) : recordIn (.record x) = some x := rfl

@[simp] theorem recordIn_regData (v : Word32) : recordIn (.regData v) = none := rfl

theorem consecutive_succ (first : Word32) (n : Nat) :
    consecutive first (n + 1) = consecutive first n ++ [first + BitVec.ofNat 32 n] := by
  induction n generalizing first with
  | zero => simp [consecutive]
  | succ n ih =>
    rw [consecutive, ih (first + 1), consecutive, List.cons_append]
    congr 3
    rw [BitVec.add_assoc, Nat.add_comm n 1, BitVec.ofNat_add]
    rfl

@[simp] theorem consecutive_length (first : Word32) (n : Nat) :
    (consecutive first n).length = n := by
  induction n generalizing first with
  | zero => rfl
  | succ n ih => simp [consecutive, ih]

@[simp] theorem verdictActions_transmits (v : Verdict) :
    (verdictActions v).filterMap transmitOf = [] := by cases v <;> rfl

theorem verdictActions_records (v : Verdict) : (verdictActions v).filterMap recordIn =
    match v with
    | .forward r => [r]
    | .quiet => []
    | .discard _ => [] := by cases v <;> rfl

end Sys2Proof.Machine
end

