-- ==== Sys2Proof/Machine/TraceText.lean ====
section
/-! DEFINITION. The event-trace lines of R79 (30_encoding.md), in which test programs are written. No
meaning depends on it (D27; log 22). -/

namespace Sys2Proof.Machine

open Sys2Proof

/-- Items with a separator between them. -/
def joinWith (sep : Char) : List (List Char) → List Char
  | [] => []
  | [x] => x
  | x :: y :: rest => x ++ sep :: joinWith sep (y :: rest)

/-- A number as `0x` and hexadecimal digits. -/
def hexNumber (n : Nat) : List Char := '0' :: 'x' :: hexPlain true n

/-- The keyword of a transmit status. -/
def statusText : TxStatus → List Char
  | .ok => "ok".toList
  | .fail => "fail".toList

/-- One event line (R79): a mnemonic followed by its fields. -/
def eventLine : Instr → List Char
  | .reset => "RESET".toList
  | .start => "START".toList
  | .canFrame f => "CAN id=".toList ++ hexNumber f.id.toNat ++ " len=".toList ++ decimal f.length.toNat
      ++ " data=".toList ++ joinWith ',' (f.data.toList.map (hexByte true))
  | .txDone status => "TX_DONE ".toList ++ statusText status
  | .rxDoneData bytes rssi snr => "RX_DONE DATA bytes=".toList
      ++ joinWith ' ' (bytes.map (hexByte true)) ++ " rssi=".toList ++ Config.lqText rssi
      ++ " snr=".toList ++ Config.lqText snr
  | .rxDoneTimeout => "RX_DONE TIMEOUT".toList
  | .rxDoneIntegrityFail => "RX_DONE INTEGRITY_FAIL".toList
  | .rxDoneHeaderFail => "RX_DONE HEADER_FAIL".toList
  | .rxDoneTransportError => "RX_DONE TRANSPORT_ERROR".toList
  | .rxService => "RX_SERVICE".toList
  | .regRead r => "REG_READ ".toList ++ decimal r.toNat

end Sys2Proof.Machine
end

