-- ==== Sys2Proof/Tests/Slice0.lean ====
section
/-! SUPPORT. Tests. Expected values come from the tables of 30_encoding.md and the vectors of
95_test_vectors.md, named in each docstring; the `witness_` theorems show that the hypotheses of the
statements can be met, each clause at a boundary value. -/

namespace Sys2Proof.Tests

open Sys2Proof Sys2Proof.Machine Host

/-! ### Helpers -/

/-- Whether a step answers a next state of a given property. -/
def gives (r : Result) (p : State → Bool) : Bool :=
  match r with
  | .next t => p t
  | .fault _ => false
  | .refused _ => false

/-- A passed check is a next state with the property. -/
theorem gives_next {r : Result} {p : State → Bool} (h : gives r p = true) :
    ∃ t, r = .next t ∧ p t = true := by
  cases r with
  | next t => exact ⟨t, rfl, h⟩
  | fault f => cases f
  | refused w => cases h

/-- Parameters of a TX unit with SEQ_INIT 5 (program P1). -/
def txParams : Params := ⟨.tx, 5, 255⟩

/-- Parameters of an RX unit. -/
def rxParams : Params := ⟨.rx, 0, 255⟩

/-- A started TX unit whose channel is free, `seq` 5. -/
def txFree : State := { State.powerOn txParams with txStarted := true }

/-- A started TX unit whose channel is busy, `seq` 6. -/
def txBusy : State := { State.powerOn txParams with txStarted := true, channelFree := false, seq := 6 }

/-- A started RX unit in ARMED. -/
def rxArmedUnit : State := { State.powerOn rxParams with rxStarted := true, rxState := .armed }

/-- A started RX unit in PENDING with a given latch. -/
def rxPendingUnit (l : RxLatch) : State :=
  { State.powerOn rxParams with rxStarted := true, rxState := .pending, rxLatch := l }

/-- The frame of E1, padding 0. -/
def frameE1 : CanFrame := ⟨0x7FF, 4, #v[0xDE, 0xAD, 0xBE, 0xEF, 0, 0, 0, 0]⟩

/-- A frame of length 8, identifier above 16 bits (VF2). -/
def frameVF2 : CanFrame := ⟨0x1ABCDEF5, 8, #v[1, 2, 3, 4, 5, 6, 7, 8]⟩

/-- The bytes `B` of the deframer's vectors (E1). -/
def bytesB : List Byte :=
  [0x05, 0x00, 0x00, 0x00, 0xFF, 0x07, 0x04, 0xDE, 0xAD, 0xBE, 0xEF, 0x00, 0x00, 0x00, 0x00]

/-- The bytes of VF2 and VR10: len 8. -/
def bytesVF2 : List Byte :=
  [0x00, 0x00, 0x00, 0x00, 0xF5, 0xDE, 0x08, 0x01, 0x02, 0x03, 0x04, 0x05, 0x06, 0x07, 0x08]

/-- The bytes of VR9: `B` with a len byte of 9. -/
def bytesVR9 : List Byte :=
  [0x05, 0x00, 0x00, 0x00, 0xFF, 0x07, 0x09, 0xDE, 0xAD, 0xBE, 0xEF, 0x00, 0x00, 0x00, 0x00]

/-- The bytes of VR11: len 0. -/
def bytesVR11 : List Byte :=
  [0x78, 0x56, 0x34, 0x12, 0x23, 0x01, 0x00, 0xAA, 0xAA, 0xAA, 0xAA, 0xAA, 0xAA, 0xAA, 0xAA]

/-- A latched `DATA` transfer. -/
def dataLatch (bytes : List Byte) : RxLatch := ⟨.data, bytes, .zero, .zero⟩

/-- A latch of another outcome. -/
def outcomeLatch (o : RxOutcome) : RxLatch := ⟨o, [], .zero, .zero⟩

/-- The newest record of a trace has a tag and actions. -/
def newest (t : State) (tag : Tag) (actions : List Action) : Bool :=
  match t.trace with
  | [] => false
  | r :: _ => decide (r.tag = tag) && decide (r.actions = actions)

/-! ### WellFormed smoke: a term refused by each check -/

/-- A TX operation at an RX unit (R77). -/
theorem test_wf_tx_operation_at_rx : wellFormed rxParams (.canFrame frameE1) = false := by decide

/-- An RX operation at a TX unit (R77). -/
theorem test_wf_rx_operation_at_tx : wellFormed txParams .rxService = false := by decide

/-- A payload of one byte above RX_MAX_BYTES, and the largest that fits (R28). -/
theorem test_wf_payload_bound :
    wellFormed ⟨.rx, 0, 15⟩ (.rxDoneData (0x00 :: bytesB) .zero .zero) = false ∧
    wellFormed ⟨.rx, 0, 15⟩ (.rxDoneData bytesB .zero .zero) = true := by decide

/-! ### Decoding: words written out from R70 to R74, bits 7:4 then bits 3:0 -/

theorem test_decode_reset : decodeTableWord 8 0b0000_0001 = some .reset := by decide

theorem test_decode_start : decodeTableWord 8 0b0000_0010 = some .start := by decide

theorem test_decode_canFrame :
    decode 0b00000011#8 (.canFrame 0x7FF 4 [0xDE, 0xAD, 0xBE, 0xEF, 0, 0, 0, 0])
      = .ok (.canFrame frameE1) := by decide

theorem test_decode_txDone :
    decodeTableWord 8 0b0000_0100 = some (.txDone .ok) ∧
    decodeTableWord 8 0b0001_0100 = some (.txDone .fail) := by decide

theorem test_decode_rxDoneData :
    decode 0b00000101#8 (.rxData bytesB .zero .zero) = .ok (.rxDoneData bytesB .zero .zero) := by decide

theorem test_decode_rxDoneTimeout : decodeTableWord 8 0b0001_0101 = some .rxDoneTimeout := by decide

theorem test_decode_rxDoneIntegrityFail :
    decodeTableWord 8 0b0010_0101 = some .rxDoneIntegrityFail := by decide

theorem test_decode_rxDoneHeaderFail :
    decodeTableWord 8 0b0011_0101 = some .rxDoneHeaderFail := by decide

theorem test_decode_rxDoneTransportError :
    decodeTableWord 8 0b0100_0101 = some .rxDoneTransportError := by decide

theorem test_decode_rxService : decodeTableWord 8 0b0000_0110 = some .rxService := by decide

theorem test_decode_regRead :
    decodeTableWord 8 0b0001_0111 = some (.regRead 1) ∧
    decodeTableWord 8 0b1111_0111 = some (.regRead 15) := by decide

/-- The refusals of 95_test_vectors.md that hold at both units. -/
theorem test_decode_refusals :
    decode 0x00 .empty = .refused .reservedOp ∧ decode 0x08 .empty = .refused .reservedOp ∧
    decode 0x13 .empty = .refused .reservedSub ∧ decode 0x24 .empty = .refused .reservedStatus ∧
    decode 0x55 .empty = .refused .reservedOutcome ∧ decode 0x16 .empty = .refused .reservedSub ∧
    decode 0x11 .empty = .refused .reservedSub := by decide

/-- The refusals of 95_test_vectors.md that hold at one unit only. -/
theorem test_refused_at_the_other_unit :
    exec (.canFrame frameE1) rxArmedUnit = .refused .otherUnit ∧
    exec (.rxDoneData bytesB .zero .zero) txFree = .refused .otherUnit := ⟨rfl, rfl⟩

/-- A payload of another shape than the word selects (R77): seven data bytes, and none. -/
theorem test_decode_payload_shape :
    decode 0x03 (.canFrame 0 0 [0, 0, 0, 0, 0, 0, 0]) = .refused .payloadShape ∧
    decode 0x05 .empty = .refused .payloadShape ∧
    decode 0x02 (.rxData [] .zero .zero) = .refused .payloadShape := by decide

/-- Each word of the table runs as the first event after reset: RX_SERVICE, RX_DONE.DATA, CAN_FRAME. -/
theorem test_withFetchWord_runs :
    gives (step (State.reset.withFetchWord 8 0x06))
      (fun t => newest t (.discarded .length) [.beginReceive]) ∧
    gives (step (State.reset.withFetchWord 8 0x05)) (fun t => newest t .ignored []) ∧
    gives (step (State.reset.withFetchWord 8 0x03)) (fun t => newest t .ignored []) := by decide

/-! ### The framer (VF1 to VF6) -/

theorem test_serialize_E1 : serialize 5 frameE1 = bytesB := by decide

theorem test_serialize_truncates_id :
    serialize 0 frameVF2 = bytesVF2 := by decide

theorem test_serialize_copies_padding :
    serialize 0x12345678 ⟨0x123, 0, #v[0xAA, 0xAA, 0xAA, 0xAA, 0xAA, 0xAA, 0xAA, 0xAA]⟩ = bytesVR11 := by
  decide

theorem test_serialize_clamps_length :
    serialize 0xFFFFFFFF ⟨0x000, 12, #v[0x11, 0x22, 0x33, 0x44, 0x55, 0x66, 0x77, 0x88]⟩
      = [0xFF, 0xFF, 0xFF, 0xFF, 0x00, 0x00, 0x08, 0x11, 0x22, 0x33, 0x44, 0x55, 0x66, 0x77, 0x88] := by
  decide

theorem test_serialize_byte_order :
    serialize 0x00010000 ⟨0x7FF, 8, #v[0xFF, 0xFF, 0xFF, 0xFF, 0xFF, 0xFF, 0xFF, 0xFF]⟩
      = [0x00, 0x00, 0x01, 0x00, 0xFF, 0x07, 0x08, 0xFF, 0xFF, 0xFF, 0xFF, 0xFF, 0xFF, 0xFF, 0xFF] := by
  decide

/-! ### Admission (VA1 to VA10) -/

/-- VA1, VA4. -/
theorem test_canFrame_admitted :
    gives (exec (.canFrame frameE1) txFree) (fun t =>
      !t.channelFree && decide (t.seq = 6) && decide (bufferBytes t.txBuf = bytesB.map some)
        && newest t .admitted [.beginTransmit bytesB]) ∧
    gives (exec (.canFrame ⟨0x10, 0, #v[0, 0, 0, 0, 0, 0, 0, 0]⟩) { txFree with seq := 0xFFFFFFFF })
      (fun t => decide (t.seq = 0) && newest t .admitted [.beginTransmit
        [0xFF, 0xFF, 0xFF, 0xFF, 0x10, 0x00, 0x00, 0, 0, 0, 0, 0, 0, 0, 0]]) := by decide

/-- VA2, VA3. -/
theorem test_canFrame_dropped_or_ignored :
    exec (.canFrame frameVF2) txBusy
      = .next { txBusy with trace := [⟨.canFrame frameVF2, .dropped, []⟩] } ∧
    exec (.canFrame frameE1) (State.powerOn txParams)
      = .next { State.powerOn txParams with trace := [⟨.canFrame frameE1, .ignored, []⟩] } :=
  ⟨rfl, rfl⟩

/-- VA5, VA6. -/
theorem test_txDone_frees :
    gives (exec (.txDone .ok) txBusy) (fun t =>
      t.channelFree && decide (t.seq = 6) && newest t .completed []) ∧
    gives (exec (.txDone .fail) txBusy) (fun t =>
      t.channelFree && decide (t.seq = 6) && newest t .completed []) := by decide

/-- VA7, VA8. -/
theorem test_txDone_when_free_or_not_started :
    gives (exec (.txDone .ok) txFree) (fun t => t.channelFree && newest t .completed []) ∧
    gives (exec (.txDone .ok) (State.powerOn txParams)) (fun t => newest t .ignored []) := by decide

/-! ### The deframer (VR1 to VR16) -/

/-- VR1: the latch, for any link quality `r`, `q`. -/
theorem test_rxDone_data (r q : LQ) :
    exec (.rxDoneData bytesB r q) rxArmedUnit = .next
      { rxPendingUnit ⟨.data, bytesB, r, q⟩ with
        trace := [⟨.rxDoneData bytesB r q, .latched, []⟩] } := rfl

/-- The worked example of R133, and VR10. -/
theorem test_deserialize :
    deserialize bytesB = ⟨5, 0x07FF, 4, [0xDE, 0xAD, 0xBE, 0xEF, 0, 0, 0, 0]⟩ ∧
    deserialize bytesVF2 = ⟨0, 0xDEF5, 8, [1, 2, 3, 4, 5, 6, 7, 8]⟩ := by decide

/-- VR1: the record, for any link quality `r`, `q`. -/
theorem test_rxService_forwards (r q : LQ) :
    exec .rxService (rxPendingUnit ⟨.data, bytesB, r, q⟩) = .next
      { rxArmedUnit with
        rxLatch := ⟨.data, bytesB, r, q⟩
        trace := [⟨.rxService, .forwarded,
          [.record ⟨5, 0x07FF, 4, [0xDE, 0xAD, 0xBE, 0xEF], r, q⟩, .beginReceive]⟩] } := by
  have hj : judge ⟨.data, bytesB, r, q⟩
      = .forward ⟨5, 0x07FF, 4, [0xDE, 0xAD, 0xBE, 0xEF], r, q⟩ := by
    have hl : bytesB.length = pktSize := by decide
    have h6 : memRead bytesB 6 1 ≤ maxLen := by decide
    simp only [judge, judgeData, hl, h6, if_true, test_deserialize.1, recordOf]
    rfl
  have hs : exec .rxService (rxPendingUnit ⟨.data, bytesB, r, q⟩)
      = service (rxPendingUnit ⟨.data, bytesB, r, q⟩) := rfl
  rw [hs, service, show (rxPendingUnit ⟨.data, bytesB, r, q⟩).rxLatch = ⟨.data, bytesB, r, q⟩ from rfl, hj]
  rfl

/-- VR6, VR7, VR8, VR9. -/
theorem test_rxService_discards :
    ([bytesB.take 14, bytesB ++ [0x00], []].all fun b =>
      gives (exec .rxService (rxPendingUnit (dataLatch b))) (fun t =>
        decide (t.rxBadCount = 1) && newest t (.discarded .length) [.beginReceive])) ∧
    gives (exec .rxService (rxPendingUnit (dataLatch bytesVR9))) (fun t =>
      decide (t.rxBadCount = 1) && newest t (.discarded .lenField) [.beginReceive]) := by decide

/-- VR2, VR13. -/
theorem test_rxDone_timeout :
    gives (exec .rxDoneTimeout rxArmedUnit) (fun t =>
      decide (t.rxState = .pending) && decide (t.rxLatch.outcome = .timeout) && newest t .latched []) ∧
    gives (exec (.rxDoneData bytesB .zero .zero) (rxPendingUnit (outcomeLatch .timeout))) (fun t =>
      decide (t.rxLatch.outcome = .timeout) && newest t .ignored []) := by decide

/-- VR3, VR12 (the count wraps). -/
theorem test_rxDone_integrityFail :
    gives (exec .rxDoneIntegrityFail rxArmedUnit) (fun t =>
      decide (t.rxLatch.outcome = .integrityFail) && newest t .latched []) ∧
    gives (exec .rxService { rxPendingUnit (outcomeLatch .integrityFail) with rxBadCount := 0xFFFFFFFF })
      (fun t => decide (t.rxBadCount = 0) && newest t (.discarded .integrity) [.beginReceive]) := by
  decide

/-- VR4. -/
theorem test_rxDone_headerFail :
    gives (exec .rxDoneHeaderFail rxArmedUnit) (fun t =>
      decide (t.rxLatch.outcome = .headerFail) && newest t .latched []) ∧
    gives (exec .rxService { rxPendingUnit (outcomeLatch .headerFail) with rxBadCount := 1 })
      (fun t => decide (t.rxBadCount = 2) && newest t (.discarded .header) [.beginReceive]) := by decide

/-- VR5. -/
theorem test_rxDone_transportError :
    gives (exec .rxDoneTransportError rxArmedUnit) (fun t =>
      decide (t.rxLatch.outcome = .transportError) && newest t .latched []) ∧
    gives (exec .rxService { rxPendingUnit (outcomeLatch .transportError) with rxBadCount := 2 })
      (fun t => decide (t.rxBadCount = 3) && newest t (.discarded .transport) [.beginReceive]) := by
  decide

/-! ### Control (VC1 to VC8), codes and lines -/

/-- VC1, VC2, VC3. -/
theorem test_start :
    gives (exec .start (State.powerOn txParams)) (fun t =>
      decide (statusReg t = 0x00000003) && newest t .started []) ∧
    gives (exec .start (State.powerOn rxParams)) (fun t =>
      decide (statusReg t = 0x00000006) && newest t .started [.beginReceive]) ∧
    gives (exec .start rxArmedUnit) (fun t => newest t .ignored []) := by decide

/-- VC4, VC5. -/
theorem test_regRead_after_reset :
    gives (exec (.regRead 0) (State.powerOn txParams)) (fun t => newest t .read [.regData 1]) ∧
    gives (exec (.regRead 15) (State.powerOn txParams)) (fun t => newest t .read [.regData 0]) ∧
    gives (exec (.regRead 0) (State.powerOn rxParams)) (fun t => newest t .read [.regData 0]) := by decide

/-- VC6, and program P1 step 7. -/
theorem test_regRead_values :
    gives (exec (.regRead 0) { rxPendingUnit (dataLatch []) with rxBadCount := 3 })
      (fun t => newest t .read [.regData 0x0000000A]) ∧
    gives (exec (.regRead 2) { rxPendingUnit (dataLatch []) with rxBadCount := 3 })
      (fun t => newest t .read [.regData 3]) ∧
    gives (exec (.regRead 1) txBusy) (fun t => newest t .read [.regData 6]) := by decide

/-- VC7, VC8. -/
theorem test_reset :
    gives (exec .reset { txBusy with seq := 9 }) (fun t =>
      !t.txStarted && t.channelFree && decide (t.seq = 5) && newest t .reset []) ∧
    gives (exec .reset { rxPendingUnit (dataLatch []) with rxBadCount := 3 }) (fun t =>
      !t.rxStarted && decide (t.rxState = .idle) && decide (t.rxBadCount = 0) && newest t .reset []) := by
  decide

/-- The codes of R75, R160 and R163. -/
theorem test_codes :
    actionCode (.beginTransmit []) = 0x81 ∧ actionCode (.regData 0) = 0x84 ∧
    tagCode .forwarded = 5 ∧ tagCode .reset = 10 ∧ causeCode .integrity = 1 ∧ causeCode .lenField = 5 := by
  decide

/-- The sink lines of 95_test_vectors.md, without link quality. -/
theorem test_sink_lines :
    sinkFields true ⟨5, 0x07FF, 4, [0xDE, 0xAD, 0xBE, 0xEF], .zero, .zero⟩ = "5,7FF,DE,AD,BE,EF".toList ∧
    sinkFields true ⟨7, 0x0123, 0, [], .zero, .zero⟩ = "7,123".toList ∧
    sinkFields true ⟨12, 0x000A, 1, [0x0A], .zero, .zero⟩ = "12,A,0A".toList := by decide

/-- A line of program P1 (R79). -/
theorem test_event_line :
    eventLine (.canFrame frameE1) = "CAN id=0x7FF len=4 data=DE,AD,BE,EF,00,00,00,00".toList := by decide

/-! ### Witnesses: the hypotheses of the statements can be met -/

theorem witness_EncodeOfDecode : decode 0x14 .empty = .ok (.txDone .fail) := by decide

theorem witness_AcceptedWordsAreExactlyTheTable :
    { rxArmedUnit with inbox := [⟨0x03, .empty⟩] }.inbox = [⟨0x03, .empty⟩] ∧
    (0x03 : Byte) ∉ acceptedWords .rx := by decide

theorem witness_RefusedWordsAreExactlyReserved :
    { txFree with inbox := [⟨0x13, .empty⟩] }.inbox = [⟨0x13, .empty⟩] ∧
    refusedBy .tx 0x13 .empty ∧ ¬ refusedBy .tx 0x14 .empty := by
  unfold refusedBy
  decide

theorem witness_StepRunsDecodedEvent :
    { txBusy with inbox := [⟨0x14, .empty⟩] }.inbox = [⟨0x14, .empty⟩] ∧
    decode 0x14 .empty = .ok (.txDone .fail) := by decide

theorem witness_StepWithoutEvents :
    ((rxPendingUnit (dataLatch bytesB)).inbox = [] ∧
      (rxPendingUnit (dataLatch bytesB)).params.role = .rx ∧
      (rxPendingUnit (dataLatch bytesB)).rxState = .pending) ∧
    (rxArmedUnit.inbox = [] ∧ ¬ (rxArmedUnit.params.role = .rx ∧ rxArmedUnit.rxState = .pending)) ∧
    (txFree.inbox = [] ∧ ¬ (txFree.params.role = .rx ∧ txFree.rxState = .pending)) := by decide

theorem witness_MemReadAfterMemWrite : 11 + 4 ≤ bytesB.length ∧ 15 + 0 ≤ bytesB.length := by decide

theorem witness_MemWriteBytes :
    4 + 2 ≤ bytesB.length ∧ (1 : Nat) < 2 ∧ (3 : Nat) < 4 ∧ 4 + 2 ≤ (6 : Nat) := by decide

theorem witness_PacketRoundTrip : frameVF2.length.toNat ≤ 8 ∧ frameE1.length.toNat ≤ 8 := by decide

theorem witness_CanIdFieldIsLowSixteenBits :
    frameE1.id.toNat < 0x800 ∧ ({ frameE1 with id := 0x1ABC0123 } : CanFrame).id = 0x1ABC0123 := by decide

theorem witness_ReconstructedFrame : frameVF2.length.toNat ≤ 8 := by decide

theorem witness_EveryValidPacketIsSerialized :
    ((serialize 0 frameVF2).length = 15 ∧ memRead (serialize 0 frameVF2) 6 1 = 8) ∧
    (bytesVR11.length = 15 ∧ memRead bytesVR11 6 1 = 0) := by decide

theorem witness_CanFrameAdmitted :
    txFree.params.role = .tx ∧ txFree.txStarted = true ∧ txFree.channelFree = true ∧
    (14 : Nat) < 15 ∧ 15 ≤ (15 : Nat) := by decide

theorem witness_CanFrameDroppedOrIgnored :
    (txBusy.params.role = .tx ∧ txBusy.txStarted = true ∧ txBusy.channelFree = false) ∧
    ((State.powerOn txParams).params.role = .tx ∧ (State.powerOn txParams).txStarted = false) := by decide

theorem witness_TxDoneFreesChannel :
    (txBusy.params.role = .tx ∧ txBusy.txStarted = true) ∧
    ((State.powerOn txParams).params.role = .tx ∧ (State.powerOn txParams).txStarted = false) := by decide

/-- Both clauses: a free and a busy channel, a burst of two and of one. -/
theorem witness_BurstAdmitsOnlyFirst :
    let free := { txFree with inbox := frameEvents [frameE1, frameVF2] }
    let busy := { txBusy with inbox := frameEvents [frameE1] }
    (free.params.role = .tx ∧ free.txStarted = true ∧ free.inbox = frameEvents (frameE1 :: [frameVF2]) ++ []
      ∧ free.channelFree = true) ∧
    (busy.params.role = .tx ∧ busy.txStarted = true ∧ busy.inbox = frameEvents (frameE1 :: []) ++ []
      ∧ busy.channelFree = false) := by decide

/-- A dropped frame, a completion and a reset. -/
theorem witness_NoTransmitWhileInFlight :
    txBusy.channelFree = false ∧ gives (exec (.canFrame frameE1) txBusy) (fun t => !t.channelFree) ∧
    gives (exec (.txDone .fail) txBusy) (fun t => t.channelFree) ∧
    gives (exec .reset txBusy) (fun t => t.channelFree) := by decide

theorem witness_ChannelFreeWriters :
    (txFree.channelFree = true ∧ gives (exec (.canFrame frameE1) txFree) (fun t => !t.channelFree)) ∧
    (txBusy.channelFree = false ∧ gives (exec (.txDone .ok) txBusy) (fun t => t.channelFree)) := by decide

theorem witness_SeqWriters :
    gives (exec (.canFrame frameE1) { txFree with seq := 0xFFFFFFFF }) (fun t =>
      decide (t.trace.head?.map (·.tag) = some .admitted) && decide (t.seq ≠ 0xFFFFFFFF)) ∧
    txBusy.params.role = .tx ∧
    gives (exec .reset txBusy) (fun t => decide (t.seq ≠ txBusy.seq)) := by decide

theorem witness_PacketIdsConsecutiveOverRuns :
    txParams.role = .tx ∧
    gives (run 4 { State.powerOn txParams with
        inbox := [encode .start, encode (.canFrame frameE1), encode (.txDone .fail),
          encode (.canFrame frameVF2)] })
      (fun t => decide ((transmitted (sinceReset t.trace)).length = 2)) := by decide

theorem witness_BothOrdersGiveDifferentResults :
    let dropFirst := { txBusy with inbox := [encode (.canFrame frameE1), encode (.txDone .ok)] }
    let freeFirst := { txBusy with inbox := [encode (.txDone .ok), encode (.canFrame frameE1)] }
    (dropFirst.params.role = .tx ∧ dropFirst.txStarted = true ∧ dropFirst.channelFree = false ∧
      dropFirst.inbox = [encode (.canFrame frameE1), encode (.txDone .ok)]) ∧
    (freeFirst.params.role = .tx ∧ freeFirst.txStarted = true ∧ freeFirst.channelFree = false ∧
      freeFirst.inbox = [encode (.txDone .ok), encode (.canFrame frameE1)]) := by decide

/-- The empty transfer, and one of exactly RX_MAX_BYTES. -/
theorem witness_RxDoneDataLatched :
    (rxArmedUnit.params.role = .rx ∧ ([] : List Byte).length ≤ rxArmedUnit.params.rxMaxBytes ∧
      rxArmedUnit.rxStarted = true ∧ rxArmedUnit.rxState = .armed) ∧
    (let s : State := { rxArmedUnit with params := ⟨.rx, 0, 15⟩ }
     s.params.role = .rx ∧ bytesB.length = s.params.rxMaxBytes ∧ s.rxStarted = true ∧
     s.rxState = .armed) := by decide

theorem witness_RxDoneOutcomeLatched :
    (Instr.rxDoneTimeout, RxOutcome.timeout) ∈ [(Instr.rxDoneTimeout, RxOutcome.timeout),
      (.rxDoneIntegrityFail, .integrityFail), (.rxDoneHeaderFail, .headerFail),
      (.rxDoneTransportError, .transportError)] ∧
    rxArmedUnit.params.role = .rx ∧ rxArmedUnit.rxStarted = true ∧ rxArmedUnit.rxState = .armed := by
  decide

/-- Both disjuncts of each premise: a report without payload at a unit not started, a `DATA` report at a
PENDING one. -/
theorem witness_RxDoneIgnoredUnlessArmed :
    (Instr.rxDoneTimeout ∈ [Instr.rxDoneTimeout, .rxDoneIntegrityFail, .rxDoneHeaderFail,
        .rxDoneTransportError] ∧
      (State.powerOn rxParams).params.role = .rx ∧ (State.powerOn rxParams).rxStarted = false) ∧
    (bytesB.length ≤ (rxPendingUnit (dataLatch [])).params.rxMaxBytes ∧
      (rxPendingUnit (dataLatch [])).params.role = .rx ∧
      (rxPendingUnit (dataLatch [])).rxState ≠ .armed) := by decide

theorem witness_RxServiceTimeout :
    (rxPendingUnit (outcomeLatch .timeout)).params.role = .rx ∧
    (rxPendingUnit (outcomeLatch .timeout)).rxState = .pending ∧
    (rxPendingUnit (outcomeLatch .timeout)).rxLatch.outcome = .timeout := by decide

theorem witness_RxServiceDiscardsFailures :
    (RxOutcome.headerFail, Cause.header) ∈ [(RxOutcome.integrityFail, Cause.integrity),
      (.headerFail, .header), (.transportError, .transport)] ∧
    (rxPendingUnit (outcomeLatch .headerFail)).params.role = .rx ∧
    (rxPendingUnit (outcomeLatch .headerFail)).rxState = .pending ∧
    (rxPendingUnit (outcomeLatch .headerFail)).rxLatch.outcome = .headerFail := by decide

/-- Lengths 14 and 16, and a len byte of 9. -/
theorem witness_RxServiceDiscardsMalformed :
    (let s := rxPendingUnit (dataLatch (bytesB.take 14))
     s.params.role = .rx ∧ s.rxState = .pending ∧ s.rxLatch.outcome = .data ∧
     s.rxLatch.bytes.length = 14) ∧
    (let s := rxPendingUnit (dataLatch (bytesB ++ [0]))
     s.params.role = .rx ∧ s.rxState = .pending ∧ s.rxLatch.outcome = .data ∧
     s.rxLatch.bytes.length = 16) ∧
    (let s := rxPendingUnit (dataLatch bytesVR9)
     s.params.role = .rx ∧ s.rxState = .pending ∧ s.rxLatch.outcome = .data ∧
     s.rxLatch.bytes.length = 15 ∧ s.rxLatch.bytes[6]? = some 9 ∧ 8 < (9 : Byte).toNat) := by decide

/-- A len byte of 8 and one of 0. -/
theorem witness_RxServiceForwards :
    (let s := rxPendingUnit (dataLatch ([0, 0, 0, 0, 0xF5, 0xDE, 8] ++ [1, 2, 3, 4, 5, 6, 7, 8]))
     s.params.role = .rx ∧ s.rxState = .pending ∧ (8 : Byte).toNat ≤ 8 ∧
     ([1, 2, 3, 4, 5, 6, 7, 8] : List Byte).length = 8 ∧
     s.rxLatch = ⟨.data, [0, 0, 0, 0, 0xF5, 0xDE, 8] ++ [1, 2, 3, 4, 5, 6, 7, 8], .zero, .zero⟩) ∧
    (let s := rxPendingUnit (dataLatch bytesVR11)
     s.params.role = .rx ∧ s.rxState = .pending ∧ (0 : Byte).toNat ≤ 8 ∧
     (List.replicate 8 (0xAA : Byte)).length = 8 ∧
     s.rxLatch = ⟨.data, [0x78, 0x56, 0x34, 0x12, 0x23, 0x01, 0] ++ List.replicate 8 0xAA, .zero, .zero⟩) := by
  decide

theorem witness_RxServiceAlwaysRearms :
    gives (exec .rxService (rxPendingUnit (dataLatch bytesB))) (fun t => decide (t.rxState = .armed)) ∧
    gives (exec .rxService (rxPendingUnit (outcomeLatch .timeout)))
      (fun t => decide (t.rxState = .armed)) := by decide

theorem witness_RxServiceOnlyWhilePending :
    ((rxPendingUnit (dataLatch [])).params.role = .rx ∧ (rxPendingUnit (dataLatch [])).rxState = .pending) ∧
    (rxArmedUnit.params.role = .rx ∧ rxArmedUnit.rxState ≠ .pending) ∧
    (State.powerOn rxParams).rxState ≠ .pending := by decide

/-- Each of the four moves occurs. -/
theorem witness_ReceiveCycle :
    (IdleIffNotStarted (State.powerOn rxParams) ∧
      gives (exec .start (State.powerOn rxParams)) (fun t => decide (t.rxState = .armed))) ∧
    (IdleIffNotStarted rxArmedUnit ∧
      gives (exec .rxDoneTimeout rxArmedUnit) (fun t => decide (t.rxState = .pending))) ∧
    (IdleIffNotStarted (rxPendingUnit (dataLatch bytesB)) ∧
      gives (exec .rxService (rxPendingUnit (dataLatch bytesB))) (fun t => decide (t.rxState = .armed)) ∧
      gives (exec .reset (rxPendingUnit (dataLatch bytesB))) (fun t => decide (t.rxState = .idle))) := by
  decide

theorem witness_BadCountWriters :
    gives (exec .rxService { rxPendingUnit (dataLatch []) with rxBadCount := 0xFFFFFFFF })
      (fun t => decide (t.trace.head?.map (·.tag) = some (.discarded .length))
        && decide (t.rxBadCount ≠ 0xFFFFFFFF)) ∧
    gives (exec .reset { rxArmedUnit with rxBadCount := 3 }) (fun t => decide (t.rxBadCount ≠ 3)) ∧
    rxArmedUnit.params.role = .rx := by decide

theorem witness_UnreadLatchDoesNotMatter :
    (rxPendingUnit (dataLatch [])).params.role = .rx ∧
    (rxPendingUnit (dataLatch [])).rxState = .pending ∧
    (dataLatch (bytesB.take 14)).outcome = (⟨.data, [], .zero, .zero⟩ : RxLatch).outcome ∧
    (dataLatch (bytesB.take 14)).bytes.length ≠ 15 ∧
    (⟨.data, [], .zero, .zero⟩ : RxLatch).bytes.length ≠ 15 ∧
    (outcomeLatch .timeout).outcome = (⟨.timeout, bytesB, .zero, .zero⟩ : RxLatch).outcome ∧
    (outcomeLatch .timeout).outcome ≠ .data := by decide

/-- Four bytes of padding, and eight. -/
theorem witness_PaddingIsNotInterpreted :
    ((4 : Byte).toNat ≤ 8 ∧ (bytesB.take 11)[6]? = some 4 ∧ (bytesB.take 11).length = 7 + (4 : Byte).toNat ∧
      ([0, 0, 0, 0] : List Byte).length = 8 - (4 : Byte).toNat ∧
      ([1, 2, 3, 4] : List Byte).length = 8 - (4 : Byte).toNat) ∧
    ((0 : Byte).toNat ≤ 8 ∧ (bytesVR11.take 7)[6]? = some 0 ∧
      (bytesVR11.take 7).length = 7 + (0 : Byte).toNat ∧
      (bytesVR11.drop 7).length = 8 - (0 : Byte).toNat) := by decide

theorem witness_StartStartsOnce :
    ((State.powerOn txParams).params.role = .tx ∧ (State.powerOn txParams).txStarted = false) ∧
    ((State.powerOn rxParams).params.role = .rx ∧ (State.powerOn rxParams).rxStarted = false) ∧
    (txFree.params.role = .tx ∧ txFree.txStarted = true) ∧
    (rxArmedUnit.params.role = .rx ∧ rxArmedUnit.rxStarted = true) := by decide

/-- The clauses about registers 3 to 15, and bits 31:4 of STATUS, at their ends. -/
theorem witness_RegReadEmitsRegister : 3 ≤ (3 : BitVec 4).toNat ∧ 3 ≤ (15 : BitVec 4).toNat := by decide

theorem witness_StatusBits :
    txFree.params.role = .tx ∧ rxArmedUnit.params.role = .rx ∧ 4 ≤ (4 : Nat) ∧ 4 ≤ (31 : Nat) := by decide

theorem witness_ResetRestoresUnit :
    txBusy.params.role = .tx ∧ (rxPendingUnit (dataLatch bytesB)).params.role = .rx := by decide

/-- An ignored notification, a disabled service, a START. -/
theorem witness_BetweenResetAndStart :
    ((State.powerOn rxParams).txStarted = false ∧ (State.powerOn rxParams).rxStarted = false ∧
      (State.powerOn rxParams).rxState = .idle) ∧
    wellFormed (State.powerOn rxParams).params .rxDoneTimeout = true ∧
    wellFormed (State.powerOn rxParams).params .rxService = true ∧
    wellFormed (State.powerOn rxParams).params .start = true := by decide

theorem witness_StepRecordsOneOutcome :
    gives (exec (.txDone .ok) txBusy) (fun t => decide (t.trace ≠ [])) := by decide

theorem witness_IgnoredChangesNothing :
    gives (exec .start txFree) (fun t => decide (t.trace = ⟨.start, .ignored, []⟩ :: txFree.trace)) := by
  decide

theorem witness_RefusedExactlyWhenNotAccepted :
    wellFormed txFree.params .rxService = false ∧
    (wellFormed rxArmedUnit.params .rxService = true ∧ rxArmedUnit.rxState ≠ .pending) ∧
    (wellFormed txBusy.params (.txDone .ok) = true ∧ Instr.txDone .ok ≠ .rxService) := by decide

theorem witness_StopsByName :
    (unitOf .rxService = some .rx ∧ txFree.params.role ≠ .rx) ∧
    (let s : State := { rxArmedUnit with params := ⟨.rx, 0, 14⟩ }
     s.params.role = .rx ∧ s.params.rxMaxBytes < bytesB.length) := by decide

theorem witness_ConfigurationAndOtherUnitUntouched :
    gives (step { txFree with inbox := [encode (.canFrame frameE1)] }) (fun t =>
      decide (t.params.role = .tx)) ∧
    gives (step { rxArmedUnit with inbox := [encode .rxDoneTimeout] }) (fun t =>
      decide (t.params.role = .rx)) := by decide

theorem witness_PendingIsServed :
    let s := { rxPendingUnit (dataLatch bytesB) with inbox := [encode (.regRead 0)] }
    s.params.role = .rx ∧ s.rxState = .pending ∧
    decode (encode (.regRead 0)).word (encode (.regRead 0)).payload = .ok (.regRead 0) ∧
    wellFormed s.params (.regRead 0) = true := by decide

/-- A PENDING unit with a latched transfer not yet serviced. -/
def rxLatched : State :=
  { rxPendingUnit (dataLatch bytesB) with
    trace := [⟨.rxDoneData bytesB .zero .zero, .latched, []⟩, ⟨.start, .started, [.beginReceive]⟩] }

theorem witness_StepKeepsForwardingOrder :
    ForwardsLatched rxLatched ∧
    gives (step rxLatched) (fun t => decide (recorded t.trace ≠ [])) := by
  refine ⟨⟨?_, fun _ _ => ⟨[], by decide, ?_⟩⟩, by decide⟩
  · rw [show recorded rxLatched.trace = [] by decide]
    exact List.nil_sublist _
  · rw [show recorded rxLatched.trace = [] by decide]
    exact List.nil_sublist _

/-- A busy TX unit: one frame admitted since START. -/
def txInFlight : State :=
  { txBusy with
    txBuf := Memory.writeBytes [] 0 bytesB
    trace := [⟨.canFrame frameE1, .admitted, [.beginTransmit bytesB]⟩, ⟨.start, .started, []⟩] }

/-- The invariant of a unit holds of a busy TX unit, and its next step completes. -/
theorem witness_StepKeepsUnitInvariant :
    Inv { txInFlight with inbox := [encode (.txDone .ok)] } ∧
    gives (step { txInFlight with inbox := [encode (.txDone .ok)] }) (fun t => t.channelFree) := by
  refine ⟨⟨fun _ => ⟨by decide, by decide, by decide, by decide, by decide, ?_, by decide, by decide⟩, ?_⟩, by decide⟩
  · intro packet hp
    have h : (transmitted (sinceReset txInFlight.trace)).getLast? = some bytesB := by decide
    have he : packet = bytesB := by
      have : some bytesB = some packet := h.symm.trans hp
      exact (Option.some.inj this).symm
    subst he
    decide
  · intro h
    cases h

/-- An armed RX unit that has issued its receive. -/
def rxListening : State :=
  { rxArmedUnit with trace := [⟨.start, .started, [.beginReceive]⟩] }

/-- Both clauses: a completion and a report, each allowed by the transport's contract. -/
theorem witness_AllowedNotificationsAreTaken :
    (Inv txInFlight ∧ (transportOf txInFlight.trace).permits (.txDone .ok) = true ∧
      gives (exec (.txDone .ok) txInFlight) (fun t => t.channelFree)) ∧
    (Inv rxListening ∧ (transportOf rxListening.trace).permits .rxDoneTimeout = true ∧
      gives (exec .rxDoneTimeout rxListening) (fun t => decide (t.rxState = .pending))) := by
  refine ⟨⟨⟨fun _ => ⟨by decide, by decide, by decide, by decide, by decide, ?_, by decide, by decide⟩, ?_⟩,
    by decide, by decide⟩, ⟨⟨?_, fun _ => ⟨by decide, by decide, by decide, by decide, by decide⟩⟩,
    by decide, by decide⟩⟩
  · intro packet hp
    have h : (transmitted (sinceReset txInFlight.trace)).getLast? = some bytesB := by decide
    have he : packet = bytesB := by
      have : some bytesB = some packet := h.symm.trans hp
      exact (Option.some.inj this).symm
    subst he
    decide
  · intro h
    cases h
  · intro h
    cases h

theorem witness_OneOperationOutstanding :
    gives (run 2 { State.powerOn txParams with inbox := [encode .start, encode (.canFrame frameE1)] })
      (fun t => decide (slotOccupancy t = 1)) ∧
    gives (run 1 { State.powerOn rxParams with inbox := [encode .start] })
      (fun t => (transportOf t.trace).listening) := by decide

/-- Program P3, its first five steps, after START of both units. -/
def programP3 : List SystemEvent :=
  [.atCar .start, .atGround .start, .atCar (.canFrame frameE1), .link (.intact .zero .zero),
    .atGround (.rxDoneData bytesB .zero .zero), .atCar (.txDone .ok), .atGround .rxService]

/-- Program P3, steps 6 and 8: a second frame, whose transmit fails while its packet is on the air. -/
def programP3Failed : List SystemEvent :=
  programP3 ++ [.atCar (.canFrame frameVF2), .atCar (.txDone .fail)]

/-- The packetIds that a run of the system of P3 transmits, those whose transmit did not fail, and those
it records. -/
def idsOf (events : List SystemEvent) : Option (List Word32 × List Word32 × List Word32) :=
  ((System.powerOn 5 255).run events).map fun sys =>
    ((transmitted sys.car.trace).map packetIdOf, (surviving sys.car.trace).map packetIdOf,
      (recorded sys.ground.trace).map (·.packetId))

/-- Program P3: packet 5 is recorded, the packet 6 of the failed transmit is lost; the link has nothing
left to deliver (R116). -/
theorem test_program_P3 :
    idsOf programP3 = some ([5], [5], [5]) ∧ idsOf programP3Failed = some ([5, 6], [5], [5]) ∧
    idsOf (programP3Failed ++ [.link (.intact .zero .zero)]) = none := by decide

/-- A packet that has arrived is not reported failed (R116). -/
theorem test_delivered_not_failed :
    idsOf [.atCar .start, .atGround .start, .atCar (.canFrame frameE1), .link (.intact .zero .zero),
      .atCar (.txDone .fail)] = none := by decide

/-- A transfer of 16 bytes at a transport that can report 15 is not received: its receive can still time
out (log 23), and a transfer of 15 bytes is reported. -/
theorem test_unreportable_transfer :
    let upToLink (bytes : List Byte) : List SystemEvent :=
      [.atCar .start, .atGround .start, .atCar (.canFrame frameE1), .link (.altered bytes .zero .zero)]
    let completes (events : List SystemEvent) : Bool := ((System.powerOn 5 15).run events).isSome
    completes (upToLink (bytesB ++ [0]) ++ [.atGround .rxDoneTimeout]) = true ∧
    completes (upToLink bytesVR11 ++ [.atGround .rxDoneTimeout]) = false ∧
    completes (upToLink bytesVR11 ++ [.atGround (.rxDoneData bytesVR11 .zero .zero)]) = true := by
  decide

theorem witness_SystemKeepsContracts : (idsOf programP3Failed).isSome = true := by decide

theorem witness_RecordsFollowTransmissions :
    programP3Failed.all unaltered = true ∧ (idsOf programP3Failed).isSome = true := by decide

theorem witness_RecordedIdsAscendWithGaps :
    programP3Failed.all unaltered = true ∧ programP3Failed.all notCarReset = true ∧
    (idsOf programP3Failed).isSome = true := by decide

theorem witness_FailedTransmitIsNotRecorded :
    programP3Failed.all unaltered = true ∧ (idsOf programP3Failed).isSome = true := by decide

theorem witness_IntactFrameIsRecorded :
    (txFree.params.role = .tx ∧ txFree.txStarted = true ∧ txFree.channelFree = true) ∧
    (let ground : State := { rxArmedUnit with params := ⟨.rx, 0, 15⟩ }
     ground.params.role = .rx ∧ ground.rxStarted = true ∧ ground.rxState = .armed ∧
     15 ≤ ground.params.rxMaxBytes) := by decide

end Sys2Proof.Tests
end

/-! ### Proofs about the scope of the model (00_scope.md): MemRead and MemWrite, the ignored step, and the
step that runs a presented event. -/

namespace Sys2Proof.Machine

open Sys2Proof

/-! #### MemRead and MemWrite (R7, R40) -/

/-- The frame of `MemWrite`. It needs no bound: a byte past the end of the buffer is not written. -/
theorem memWrite_getElem?_of_outside {buf : List Byte} {off n v a : Nat} (h : a < off ∨ off + n ≤ a) :
    (memWrite buf off n v)[a]? = buf[a]? := by
  induction n generalizing buf off v with
  | zero => rfl
  | succ n ih => rw [memWrite, ih (by omega), List.getElem?_set_ne (by omega)]

/-- Byte `i` of the field that `MemWrite` wrote, least significant first (R40). -/
theorem memWrite_getElem?_of_lt {buf : List Byte} {off n v i : Nat} (hbuf : off + n ≤ buf.length)
    (hi : i < n) : (memWrite buf off n v)[off + i]? = some (BitVec.ofNat 8 (v / 256 ^ i)) := by
  induction n generalizing buf off v i with
  | zero => omega
  | succ n ih =>
    rw [memWrite]
    cases i with
    | zero =>
      rw [memWrite_getElem?_of_outside (by omega), Nat.add_zero,
        List.getElem?_set_self (by omega), Nat.pow_zero, Nat.div_one]
    | succ i =>
      rw [show off + (i + 1) = off + 1 + i by omega, ih (by rw [List.length_set]; omega) (by omega),
        Nat.div_div_eq_div_mul, Nat.pow_succ']

/-- `MemRead` depends on the bytes of its field alone: where they are those of `v`, it reads `v`, cut to
the width. -/
theorem memRead_of_bytes {buf : List Byte} {off n v : Nat}
    (h : ∀ i, i < n → buf[off + i]? = some (BitVec.ofNat 8 (v / 256 ^ i))) :
    memRead buf off n = v % 256 ^ n := by
  induction n generalizing off v with
  | zero => rw [memRead, Nat.pow_zero, Nat.mod_one]
  | succ n ih =>
    have lowest : buf.getD off 0 = BitVec.ofNat 8 v := by
      simpa using congrArg (Option.getD · 0) (h 0 (by omega))
    have higher : memRead buf (off + 1) n = v / 256 % 256 ^ n := ih fun i hi => by
      rw [show off + 1 + i = off + (i + 1) by omega, h (i + 1) (by omega),
        Nat.div_div_eq_div_mul, Nat.pow_succ']
    calc memRead buf off (n + 1) = v % 256 + 256 * (v / 256 % 256 ^ n) := by
          rw [memRead, lowest, higher, BitVec.toNat_ofNat]
      _ = v % 256 ^ (n + 1) := by rw [Nat.pow_succ', Nat.mod_mul]

/-- Settles O9: the length, the written bytes and the frame of `MemWrite`. -/
theorem memWriteBytes : Obligations.MemWriteBytes := fun buf off n v hbuf =>
  ⟨memWrite_length buf off n v, fun _ => memWrite_getElem?_of_lt hbuf,
    fun _ => memWrite_getElem?_of_outside⟩

/-- Settles O8: `MemRead` reads the bytes that `MemWrite` put in the field. -/
theorem memReadAfterMemWrite : Obligations.MemReadAfterMemWrite := fun _ _ _ _ hbuf =>
  memRead_of_bytes fun _ => memWrite_getElem?_of_lt hbuf

/-! #### The ignored step (R7, R160) -/

/-- A step that ends with another tag than `IGNORED`, recorded on the trace it found. -/
def TakesEffect (i : Instr) (s t : State) : Prop :=
  ∃ u tag actions, t = State.note u i tag actions ∧ u.trace = s.trace ∧ tag ≠ .ignored

section
variable {i : Instr} {s t : State}

theorem TakesEffect.tag_ne_ignored {tag : Tag} {actions : List Action} (h : TakesEffect i s t)
    (ht : t.trace = ⟨i, tag, actions⟩ :: s.trace) : tag ≠ .ignored := by
  obtain ⟨u, g, as, rfl, -, hg⟩ := h
  rw [State.note_trace] at ht
  injection ht with hrecord
  injection hrecord with _ htag
  exact htag ▸ hg

theorem verdictTag_ne_ignored (v : Verdict) : verdictTag v ≠ .ignored := by
  cases v <;> exact nofun

/-- An operation that completes either leaves the state as it was, recording `IGNORED` without an action,
or takes effect. -/
theorem exec_ignores_or_takesEffect (h : exec i s = .next t) :
    t = s.note i .ignored [] ∨ TakesEffect i s t := by
  obtain ⟨f, rfl, h⟩ | ⟨x, rfl, h⟩ | ⟨rfl, h⟩ | ⟨rfl, h⟩ | ⟨bs, rssi, snr, rfl, h⟩ | ⟨o, -, h⟩ |
    ⟨rfl, h⟩ | ⟨r, rfl, h⟩ := exec_next h
  · -- CAN_FRAME
    obtain ⟨-, ⟨-, rfl⟩ | ⟨-, -, rfl⟩ | ⟨-, -, rfl⟩⟩ := execCanFrame_next h
    · exact .inl rfl
    · exact .inr ⟨_, _, _, rfl, rfl, nofun⟩
    · exact .inr ⟨_, _, _, rfl, rfl, nofun⟩
  · -- TX_DONE
    obtain ⟨-, ⟨-, rfl⟩ | ⟨-, rfl⟩⟩ := execTxDone_next h
    · exact .inl rfl
    · exact .inr ⟨_, _, _, rfl, rfl, nofun⟩
  · -- RESET
    obtain ⟨-, rfl⟩ | ⟨-, rfl⟩ := execReset_next h
    · exact .inr ⟨_, _, _, rfl, rfl, nofun⟩
    · exact .inr ⟨_, _, _, rfl, rfl, nofun⟩
  · -- START
    obtain ⟨-, -, rfl⟩ | ⟨-, -, rfl⟩ | ⟨-, -, rfl⟩ | ⟨-, -, rfl⟩ := execStart_next h
    · exact .inl rfl
    · exact .inr ⟨_, _, _, rfl, rfl, nofun⟩
    · exact .inl rfl
    · exact .inr ⟨_, _, _, rfl, rfl, nofun⟩
  · -- RX_DONE with outcome DATA
    obtain ⟨-, -, ⟨-, -, rfl⟩ | ⟨-, rfl⟩⟩ := execRxDoneData_next h
    · exact .inr ⟨_, _, _, rfl, rfl, nofun⟩
    · exact .inl rfl
  · -- RX_DONE with any other outcome
    obtain ⟨-, ⟨-, -, rfl⟩ | ⟨-, rfl⟩⟩ := latchOutcome_next h
    · exact .inr ⟨_, _, _, rfl, rfl, nofun⟩
    · exact .inl rfl
  · -- RX_SERVICE
    obtain ⟨-, -, rfl⟩ := execRxService_next h
    exact .inr ⟨_, _, _, rfl, by simp, verdictTag_ne_ignored _⟩
  · -- REG_READ
    exact .inr ⟨_, _, _, execRegRead_next h, rfl, nofun⟩

end

/-- Settles O48: a step that takes effect has another tag, and an ignored one only notes its record. -/
theorem ignoredChangesNothing : Obligations.IgnoredChangesNothing := by
  intro i s t actions h ht
  obtain rfl | heffect := exec_ignores_or_takesEffect h
  · rw [State.note_trace] at ht
    injection ht with hrecord
    injection hrecord with _ _ hactions
    exact ⟨hactions.symm, rfl⟩
  · exact absurd rfl (heffect.tag_ne_ignored ht)

/-! #### The step that runs a presented event (R8, R49) -/

theorem step_of_inbox_cons {s : State} {e : Event} {rest : List Event} (h : s.inbox = e :: rest) :
    step s = takeEvent e (s.consume rest) := by
  rw [step, h]

theorem takeEvent_of_decode_ok {e : Event} {i : Instr} (h : decode e.word e.payload = .ok i)
    (s : State) : takeEvent e s = exec i s := by
  rw [takeEvent, h]

/-- Settles O6: the step takes the head of the inbox, and taking an event that decodes runs it. -/
theorem stepRunsDecodedEvent : Obligations.StepRunsDecodedEvent := by
  intro s e rest i hinbox hdecode
  calc step s = takeEvent e (s.consume rest) := step_of_inbox_cons hinbox
    _ = exec i (s.consume rest) := takeEvent_of_decode_ok hdecode _

end Sys2Proof.Machine

/-! ### Proofs about the state of a unit (10_state.md): the invariant of a unit, who writes each element,
and the register view of the flags. -/

namespace Sys2Proof.Machine

open Sys2Proof

/-! #### The transmit buffer (R25): what it reads after a write -/

@[simp] theorem Memory.read_write_same (m : Memory) (a : Nat) (b : Byte) :
    (m.write a b).read a = some b := by
  induction m with
  | nil => exact if_pos rfl
  | cons cell m ih =>
    obtain ⟨k, c⟩ := cell
    by_cases hlt : a < k
    · simp [write, read, hlt]
    · by_cases heq : a = k
      · simp [write, read, heq]
      · simp [write, read, hlt, heq, ih]

theorem Memory.read_write_ne (m : Memory) {a c : Nat} (b : Byte) (h : c ≠ a) :
    (m.write a b).read c = m.read c := by
  induction m with
  | nil => exact if_neg h
  | cons cell m ih =>
    obtain ⟨k, v⟩ := cell
    by_cases hlt : a < k
    · simp [write, read, hlt, h]
    · by_cases heq : a = k
      · simp [write, read, heq, heq ▸ h]
      · simp [write, read, hlt, heq, ih]

/-- A byte sequence written from offset `a` on leaves the offsets below `a`. -/
theorem Memory.read_writeBytes_of_lt {m : Memory} {a c : Nat} {bs : List Byte} (h : c < a) :
    (m.writeBytes a bs).read c = m.read c := by
  induction bs generalizing m a with
  | nil => rfl
  | cons b bs ih => rw [writeBytes, ih (by omega), read_write_ne m b (by omega)]

/-- A byte sequence written from offset `a` on is read back byte by byte. -/
theorem Memory.read_writeBytes_add {m : Memory} {a i : Nat} {bs : List Byte} (h : i < bs.length) :
    (m.writeBytes a bs).read (a + i) = some bs[i] := by
  induction bs generalizing m a i with
  | nil => exact absurd h (Nat.not_lt_zero i)
  | cons b bs ih =>
    rw [writeBytes]
    cases i with
    | zero => exact (read_writeBytes_of_lt (Nat.lt_succ_self a)).trans (read_write_same m a b)
    | succ i => rw [show a + (i + 1) = a + 1 + i by omega, ih (Nat.lt_of_succ_lt_succ h)]; rfl

/-- A packet of 15 bytes written to `tx_buf` is what `tx_buf` then holds (R25). -/
theorem bufferBytes_writeBytes (m : Memory) {packet : List Byte} (h : packet.length = pktSize) :
    bufferBytes (m.writeBytes 0 packet) = packet.map some := by
  refine List.ext_getElem (by simp [bufferBytes, h]) fun i _ hi => ?_
  have hlt : i < packet.length := by simpa using hi
  have hread : (m.writeBytes 0 packet).read (0 + i) = some packet[i] :=
    Memory.read_writeBytes_add hlt
  simpa [bufferBytes] using hread

/-- The free contents of `tx_buf` are 15 bytes (R37, R144). -/
theorem freeTxBuf_full (draw : Nat) : (bufferBytes (freeTxBuf draw)).all Option.isSome = true := by
  simp +contextual [bufferBytes, freeTxBuf_read, pktSize]

/-! #### The packetId of a serialized packet (R101) -/

/-- Byte writes from offset `off` on leave the offsets below `off`. -/
theorem memWriteEach_getElem?_of_lt {buf : List Byte} {off a : Nat} {bs : List Byte} (h : a < off) :
    (memWriteEach buf off bs)[a]? = buf[a]? := by
  induction bs generalizing buf off with
  | nil => rfl
  | cons b bs ih =>
    rw [memWriteEach, ih (by omega), memWrite_getElem?_of_outside (.inl h)]

/-- A serialized packet carries the sequence number it was given (R24, R101). -/
theorem packetIdOf_serialize (pid : Word32) (f : CanFrame) : packetIdOf (serialize pid f) = pid := by
  have hbytes : ∀ i, i < 4 →
      (serialize pid f)[0 + i]? = some (BitVec.ofNat 8 (pid.toNat / 256 ^ i)) := fun i hi => by
    rw [serialize, memWriteEach_getElem?_of_lt (by omega),
      memWrite_getElem?_of_outside (.inl (by omega)), memWrite_getElem?_of_outside (.inl (by omega)),
      memWrite_getElem?_of_lt (by simp [pktSize]) hi]
  have hread : memRead (serialize pid f) 0 4 = pid.toNat :=
    (memRead_of_bytes hbytes).trans (Nat.mod_eq_of_lt pid.isLt)
  rw [packetIdOf, hread, BitVec.ofNat_toNat, BitVec.setWidth_eq]

/-! #### The five receive-complete notifications (R72) -/

/-- An `RX_DONE` of any outcome. -/
def IsRxDone (i : Instr) : Prop :=
  i ∈ [Instr.rxDoneTimeout, .rxDoneIntegrityFail, .rxDoneHeaderFail, .rxDoneTransportError] ∨
    ∃ bytes rssi snr, i = .rxDoneData bytes rssi snr

theorem IsRxDone.ne_reset {i : Instr} (h : IsRxDone i) : i ≠ .reset := by
  rintro rfl
  simp [IsRxDone] at h

/-- The transport has reported: its receive is no longer outstanding (R172). -/
theorem IsRxDone.answered {i : Instr} (h : IsRxDone i) (t : Transport) :
    t.answered i = { t with listening := false } := by
  obtain h | ⟨bytes, rssi, snr, rfl⟩ := h
  · simp only [List.mem_cons, List.not_mem_nil, or_false] at h
    obtain rfl | rfl | rfl | rfl := h <;> rfl
  · rfl

/-- A verdict's own actions start nothing at the transport (R134). -/
@[simp] theorem foldl_hear_verdictActions (t : Transport) (v : Verdict) :
    (verdictActions v).foldl Transport.hear t = t := by cases v <;> rfl

/-! #### The records that count as discards (R160) -/

@[simp] theorem discards_cons_discarded (i : Instr) (cause : Cause) (actions : List Action)
    (older : List StepRecord) :
    discards (⟨i, .discarded cause, actions⟩ :: older) = discards older + 1 :=
  discards_cons_of _ _ rfl

theorem discards_cons_of_ne {tag : Tag} (h : ∀ cause, tag ≠ .discarded cause) (i : Instr)
    (actions : List Action) (older : List StepRecord) :
    discards (⟨i, tag, actions⟩ :: older) = discards older := by
  cases tag with
  | discarded cause => exact absurd rfl (h cause)
  | _ => exact discards_cons_not _ _ rfl

/-! #### The moves of each unit: which next state a completed operation gives, and when -/

/-- What an operation can do at a TX unit (41_admission.md, 43_control.md). -/
inductive TxMove (s : State) : Instr → State → Prop where
  | reset : TxMove s .reset (s.resetTx.note .reset .reset [])
  | start (stopped : s.txStarted = false) :
      TxMove s .start (s.startTx.note .start .started [])
  | ignoreStart (started : s.txStarted = true) :
      TxMove s .start (s.note .start .ignored [])
  | admission (f : CanFrame) (started : s.txStarted = true) (free : s.channelFree = true) :
      TxMove s (.canFrame f) ((s.admitFrame (serialize s.seq f)).note (.canFrame f) .admitted
        [.beginTransmit (serialize s.seq f)])
  | drop (f : CanFrame) (started : s.txStarted = true) (busy : s.channelFree = false) :
      TxMove s (.canFrame f) (s.note (.canFrame f) .dropped [])
  | ignoreFrame (f : CanFrame) (stopped : s.txStarted = false) :
      TxMove s (.canFrame f) (s.note (.canFrame f) .ignored [])
  | complete (x : TxStatus) (started : s.txStarted = true) :
      TxMove s (.txDone x) (s.freeChannel.note (.txDone x) .completed [])
  | ignoreDone (x : TxStatus) (stopped : s.txStarted = false) :
      TxMove s (.txDone x) (s.note (.txDone x) .ignored [])
  | read (r : BitVec 4) :
      TxMove s (.regRead r) (s.note (.regRead r) .read [.regData (regValue s r)])

/-- What an operation can do at an RX unit (42_deframer.md, 43_control.md). A latched report without
payload draws free values (log 11), so that `draws` may differ after it. -/
inductive RxMove (s : State) : Instr → State → Prop where
  | reset : RxMove s .reset (s.resetRx.note .reset .reset [])
  | start (stopped : s.rxStarted = false) :
      RxMove s .start (s.startRx.note .start .started [.beginReceive])
  | ignoreStart (started : s.rxStarted = true) :
      RxMove s .start (s.note .start .ignored [])
  | latch {i : Instr} (l : RxLatch) (draws : Nat) (report : IsRxDone i)
      (started : s.rxStarted = true) (armed : s.rxState = .armed)
      (bounded : fits l.bytes s.params.rxMaxBytes = true) :
      RxMove s i (State.note { s.latch l with draws := draws } i .latched [])
  | ignoreReport {i : Instr} (report : IsRxDone i)
      (unarmed : s.rxStarted = false ∨ s.rxState ≠ .armed) :
      RxMove s i (s.note i .ignored [])
  | service (pending : s.rxState = .pending) :
      RxMove s .rxService ((s.countVerdict (judge s.rxLatch)).rearm.note .rxService
        (verdictTag (judge s.rxLatch)) (verdictActions (judge s.rxLatch) ++ [.beginReceive]))
  | read (r : BitVec 4) :
      RxMove s (.regRead r) (s.note (.regRead r) .read [.regData (regValue s r)])

section
variable {i : Instr} {s t : State}

/-- A completed operation makes a move of the unit that the state holds. -/
theorem exec_move (h : exec i s = .next t) :
    (s.params.role = .tx ∧ TxMove s i t) ∨ (s.params.role = .rx ∧ RxMove s i t) := by
  obtain ⟨f, rfl, h⟩ | ⟨x, rfl, h⟩ | ⟨rfl, h⟩ | ⟨rfl, h⟩ | ⟨bytes, rssi, snr, rfl, h⟩ | ⟨o, hi, h⟩ |
    ⟨rfl, h⟩ | ⟨r, rfl, h⟩ := exec_next h
  · -- CAN_FRAME
    obtain ⟨role, ⟨stopped, rfl⟩ | ⟨started, busy, rfl⟩ | ⟨started, free, rfl⟩⟩ :=
      execCanFrame_next h
    · exact .inl ⟨role, .ignoreFrame f stopped⟩
    · exact .inl ⟨role, .drop f started busy⟩
    · exact .inl ⟨role, .admission f started free⟩
  · -- TX_DONE
    obtain ⟨role, ⟨stopped, rfl⟩ | ⟨started, rfl⟩⟩ := execTxDone_next h
    · exact .inl ⟨role, .ignoreDone x stopped⟩
    · exact .inl ⟨role, .complete x started⟩
  · -- RESET
    obtain ⟨role, rfl⟩ | ⟨role, rfl⟩ := execReset_next h
    · exact .inl ⟨role, .reset⟩
    · exact .inr ⟨role, .reset⟩
  · -- START
    obtain ⟨role, started, rfl⟩ | ⟨role, stopped, rfl⟩ | ⟨role, started, rfl⟩ |
      ⟨role, stopped, rfl⟩ := execStart_next h
    · exact .inl ⟨role, .ignoreStart started⟩
    · exact .inl ⟨role, .start stopped⟩
    · exact .inr ⟨role, .ignoreStart started⟩
    · exact .inr ⟨role, .start stopped⟩
  · -- RX_DONE with outcome DATA
    have report : IsRxDone (.rxDoneData bytes rssi snr) := .inr ⟨bytes, rssi, snr, rfl⟩
    obtain ⟨role, bounded, ⟨started, armed, rfl⟩ | ⟨unarmed, rfl⟩⟩ := execRxDoneData_next h
    · exact .inr ⟨role, .latch ⟨.data, bytes, rssi, snr⟩ s.draws report started armed bounded⟩
    · exact .inr ⟨role, .ignoreReport report unarmed⟩
  · -- RX_DONE with any other outcome
    have report : IsRxDone i := .inl (List.mem_map_of_mem (f := Prod.fst) hi)
    obtain ⟨role, ⟨started, armed, rfl⟩ | ⟨unarmed, rfl⟩⟩ := latchOutcome_next h
    · exact .inr ⟨role, .latch (freeLatch s o) (s.draws + 1) report started armed
        (fits_iff.2 (freeLatch_bytes_length s o))⟩
    · exact .inr ⟨role, .ignoreReport report unarmed⟩
  · -- RX_SERVICE
    obtain ⟨role, pending, rfl⟩ := execRxService_next h
    exact .inr ⟨role, .service pending⟩
  · -- REG_READ
    obtain rfl := execRegRead_next h
    cases role : s.params.role with
    | tx => exact .inl ⟨rfl, .read r⟩
    | rx => exact .inr ⟨rfl, .read r⟩

theorem exec_txMove (role : s.params.role = .tx) (h : exec i s = .next t) : TxMove s i t := by
  obtain ⟨-, move⟩ | ⟨role', -⟩ := exec_move h
  · exact move
  · exact absurd (role.symm.trans role') nofun

theorem exec_rxMove (role : s.params.role = .rx) (h : exec i s = .next t) : RxMove s i t := by
  obtain ⟨role', -⟩ | ⟨-, move⟩ := exec_move h
  · exact absurd (role.symm.trans role') nofun
  · exact move

/-! #### What a move leaves unchanged (R2, R38) -/

/-- A TX unit writes neither its configuration nor an element of the RX unit. -/
theorem TxMove.frame (h : TxMove s i t) : t.params = s.params ∧ t.rxStarted = s.rxStarted ∧
    t.rxState = s.rxState ∧ t.rxLatch = s.rxLatch ∧ t.rxBadCount = s.rxBadCount := by
  cases h <;> exact ⟨rfl, rfl, rfl, rfl, rfl⟩

/-- An RX unit writes neither its configuration nor an element of the TX unit. -/
theorem RxMove.frame (h : RxMove s i t) : t.params = s.params ∧ t.txStarted = s.txStarted ∧
    t.channelFree = s.channelFree ∧ t.seq = s.seq ∧ t.txBuf = s.txBuf := by
  cases h with
  | service => simp
  | _ => exact ⟨rfl, rfl, rfl, rfl, rfl⟩

theorem exec_params (h : exec i s = .next t) : t.params = s.params := by
  obtain ⟨-, move⟩ | ⟨-, move⟩ := exec_move h
  · exact move.frame.left
  · exact move.frame.left

/-! #### The invariant of a TX unit -/

/-- Where nothing was transmitted, and neither `seq` nor `tx_buf` was written, what a TX unit has sent
still agrees with them; the channel and the transport remain to be compared. -/
theorem TxInv.of_nothing_sent (h : TxInv s) (hparams : t.params = s.params) (hseq : t.seq = s.seq)
    (hbuf : t.txBuf = s.txBuf)
    (hsent : transmitted (sinceReset t.trace) = transmitted (sinceReset s.trace))
    (hfree : FreeBeforeStart t) (hchannel : ChannelTracksTransport t)
    (hlisten : (transportOf t.trace).listening = false) : TxInv t where
  canonical := by simpa only [BufferCanonical, hbuf] using h.canonical
  freeBeforeStart := hfree
  seqCounts := by simpa only [SeqCountsAdmitted, hseq, hparams, hsent] using h.seqCounts
  ids := by simpa only [IdsConsecutive, hparams, hsent] using h.ids
  channel := hchannel
  buffer := by simpa only [BufferHoldsLast, hbuf, hsent] using h.buffer
  notListening := hlisten
  full := by simpa only [BufferFull, hbuf] using h.full

/-- A step that writes no element of a TX unit, sends nothing and leaves its transport as it was. -/
theorem TxInv.note (h : TxInv s) {tag : Tag} {actions : List Action} (hi : i ≠ .reset)
    (hactions : actions.filterMap transmitOf = [])
    (htransport : (transportOf s.trace).follow ⟨i, tag, actions⟩ = transportOf s.trace) :
    TxInv (s.note i tag actions) := by
  have htrace : transportOf (s.note i tag actions).trace = transportOf s.trace := htransport
  refine h.of_nothing_sent rfl rfl rfl ?_ h.freeBeforeStart ?_ ?_
  · simp [sinceReset_cons, hi, hactions]
  · exact h.channel.trans (by rw [htrace])
  · rw [htrace, h.notListening]

/-- Right after a reset a TX unit has sent nothing, and its transport is reset with it (R144, R175). -/
theorem TxInv.of_nothing_since_reset (hbuf : ∃ draw, t.txBuf = freeTxBuf draw)
    (hfree : t.channelFree = true) (hseq : t.seq = t.params.seqInit)
    (hsent : transmitted (sinceReset t.trace) = []) (htransport : transportOf t.trace = .quiet) :
    TxInv t := by
  obtain ⟨draw, hbuf⟩ := hbuf
  exact {
    canonical := by simp [BufferCanonical, hbuf]
    freeBeforeStart := fun _ => hfree
    seqCounts := by simp [SeqCountsAdmitted, hsent, hseq]
    ids := by simp [IdsConsecutive, hsent, consecutive]
    channel := by simp [ChannelTracksTransport, hfree, htransport, Transport.quiet]
    buffer := by simp [BufferHoldsLast, hsent]
    notListening := by simp [htransport, Transport.quiet]
    full := by simpa only [BufferFull, hbuf] using freeTxBuf_full draw }

/-- An admission adds one packet to those sent, which carries `seq` and stands in `tx_buf` (R111). -/
theorem TxInv.admission (h : TxInv s) (f : CanFrame) (started : s.txStarted = true) :
    TxInv ((s.admitFrame (serialize s.seq f)).note (.canFrame f) .admitted
      [.beginTransmit (serialize s.seq f)]) := by
  have hsent : transmitted (sinceReset (⟨.canFrame f, .admitted, [.beginTransmit (serialize s.seq f)]⟩
      :: s.trace)) = transmitted (sinceReset s.trace) ++ [serialize s.seq f] := by
    simp [sinceReset_cons]
  have hbuf : bufferBytes (s.txBuf.writeBytes 0 (serialize s.seq f))
      = (serialize s.seq f).map some := bufferBytes_writeBytes _ (serialize_length _ _)
  have hids := h.ids
  have hseq := h.seqCounts
  exact {
    canonical := admit_wf s.seq f h.canonical
    freeBeforeStart := fun stopped => absurd (started.symm.trans stopped) nofun
    seqCounts := by
      simp only [SeqCountsAdmitted, State.note_seq, State.note_params, State.note_trace,
        State.admitFrame_seq, State.admitFrame_params, State.admitFrame_trace, hsent,
        List.length_append, List.length_singleton, BitVec.ofNat_add, ← BitVec.add_assoc, ← hseq]
      rfl
    ids := by
      simp only [IdsConsecutive, State.note_params, State.note_trace, State.admitFrame_params,
        State.admitFrame_trace, hsent, List.map_append, List.map_cons, List.map_nil,
        List.length_append, List.length_singleton, packetIdOf_serialize, consecutive_succ, ← hids,
        ← hseq]
    channel := rfl
    buffer := by simp [BufferHoldsLast, hsent, hbuf]
    notListening := h.notListening
    full := by simp [BufferFull, hbuf] }

theorem TxMove.keeps_inv (move : TxMove s i t) (h : TxInv s) : TxInv t := by
  cases move with
  | reset => exact .of_nothing_since_reset ⟨s.draws, rfl⟩ rfl rfl rfl rfl
  | start =>
    have hstarted : TxInv s.startTx := { h with freeBeforeStart := by simp [FreeBeforeStart] }
    exact hstarted.note nofun rfl rfl
  | admission f started _ => exact h.admission f started
  | complete x =>
    exact h.of_nothing_sent rfl rfl rfl (by simp [sinceReset_cons]) (fun _ => rfl) rfl
      h.notListening
  | ignoreDone x stopped =>
    -- no transmit can be outstanding, so the notification changes nothing at the transport
    have hidle : (transportOf s.trace).sending = none := by
      simpa using h.channel.symm.trans (h.freeBeforeStart stopped)
    exact h.note nofun rfl (by simp [Transport.follow, Transport.answered, ← hidle])
  | ignoreStart | drop f | ignoreFrame f | read r => exact h.note nofun rfl rfl

/-! #### The invariant of an RX unit -/

/-- Where nothing was discarded and the latch was not written, what remains to be compared are the control
state and the transport. -/
theorem RxInv.of_nothing_discarded (h : RxInv s) (hparams : t.params = s.params)
    (hcount : t.rxBadCount = s.rxBadCount) (hlatch : t.rxLatch = s.rxLatch)
    (hdiscards : discards (sinceReset t.trace) = discards (sinceReset s.trace))
    (hidle : IdleIffNotStarted t) (harmed : ArmedTracksTransport t)
    (hsending : (transportOf t.trace).sending = none) : RxInv t where
  idle := hidle
  armed := harmed
  count := by simpa only [CountsDiscards, hcount, hdiscards] using h.count
  bounded := by simpa only [LatchBounded, hparams, hlatch] using h.bounded
  notSending := hsending

/-- A step that writes no element of an RX unit, discards nothing and leaves its transport as it was. -/
theorem RxInv.note (h : RxInv s) {tag : Tag} {actions : List Action} (hi : i ≠ .reset)
    (htag : ∀ cause, tag ≠ .discarded cause)
    (htransport : (transportOf s.trace).follow ⟨i, tag, actions⟩ = transportOf s.trace) :
    RxInv (s.note i tag actions) := by
  have htrace : transportOf (s.note i tag actions).trace = transportOf s.trace := htransport
  refine h.of_nothing_discarded rfl rfl rfl ?_ h.idle ?_ ?_
  · simp [sinceReset_cons, hi, discards_cons_of_ne htag]
  · exact (congrArg Transport.listening htrace).trans h.armed
  · exact (congrArg Transport.sending htrace).trans h.notSending

/-- A unit that has left IDLE is started (R27). -/
theorem RxInv.started (h : RxInv s) (hstate : s.rxState ≠ .idle) : s.rxStarted ≠ false :=
  fun hstopped => hstate (h.idle.2 hstopped)

/-- A unit that ignores a report is not ARMED: unless started it is IDLE (R27). -/
theorem RxInv.not_listening (h : RxInv s) (unarmed : s.rxStarted = false ∨ s.rxState ≠ .armed) :
    (transportOf s.trace).listening = false := by
  have hstate : s.rxState ≠ .armed := by
    obtain hstopped | hstate := unarmed
    · rw [h.idle.2 hstopped]
      exact nofun
    · exact hstate
  rw [h.armed, decide_eq_false hstate]

/-- The latch takes what the transport reported, whose receive is then no longer outstanding (R121). -/
theorem RxInv.latch (h : RxInv s) (l : RxLatch) (draws : Nat) (report : IsRxDone i)
    (armed : s.rxState = .armed) (bounded : fits l.bytes s.params.rxMaxBytes = true) :
    RxInv (State.note { s.latch l with draws := draws } i .latched []) where
  idle := by simpa [IdleIffNotStarted] using h.started (by simp [armed])
  armed := by simp [ArmedTracksTransport, Transport.follow, report.answered]
  count := by
    simpa [CountsDiscards, sinceReset_cons, report.ne_reset, discards_cons_of_ne]
      using h.count
  bounded := bounded
  notSending := by simpa [Transport.follow, report.answered] using h.notSending

/-- `RX_SERVICE` counts a discard and begins the next receive, whatever it finds (R126, R135). -/
theorem RxInv.service (h : RxInv s) (pending : s.rxState = .pending) :
    RxInv ((s.countVerdict (judge s.rxLatch)).rearm.note .rxService
      (verdictTag (judge s.rxLatch)) (verdictActions (judge s.rxLatch) ++ [.beginReceive])) := by
  generalize judge s.rxLatch = v
  exact {
    idle := by simpa [IdleIffNotStarted] using h.started (by simp [pending])
    armed := by simp [ArmedTracksTransport, Transport.follow, Transport.hear]
    count := by
      have hcount := h.count
      cases v with
      | discard cause =>
        simp [CountsDiscards, sinceReset_cons, verdictTag, BitVec.ofNat_add, ← hcount]
      | quiet | forward record =>
        simp [CountsDiscards, sinceReset_cons, discards_cons_of_ne, verdictTag, ← hcount]
    bounded := by simpa [LatchBounded] using h.bounded
    notSending := by
      simpa [Transport.follow, Transport.hear, Transport.answered] using h.notSending }

theorem RxMove.keeps_inv (move : RxMove s i t) (h : RxInv s) : RxInv t := by
  cases move with
  | reset =>
    exact {
      idle := iff_of_true rfl rfl
      armed := rfl
      count := rfl
      bounded := fits_iff.2 (freeLatch_bytes_length s _)
      notSending := rfl }
  | start =>
    exact h.of_nothing_discarded rfl rfl rfl
      (by simp [sinceReset_cons, discards_cons_of_ne]) (by simp [IdleIffNotStarted]) rfl h.notSending
  | latch l draws report _ armed bounded => exact h.latch l draws report armed bounded
  | ignoreReport report unarmed =>
    exact h.note report.ne_reset nofun
      (by simp [Transport.follow, report.answered, ← h.not_listening unarmed])
  | service pending => exact h.service pending
  | ignoreStart | read r => exact h.note nofun nofun rfl

/-! #### The invariant of a unit -/

/-- Events not yet taken are no part of the invariant (log 1). -/
theorem Inv.consume (h : Inv s) (rest : List Event) : Inv (s.consume rest) where
  tx role := { h.tx role with }
  rx role := { h.rx role with }

theorem exec_keeps_inv (h : Inv s) (hexec : exec i s = .next t) : Inv t := by
  have hparams : t.params = s.params := exec_params hexec
  constructor
  · intro role
    rw [hparams] at role
    exact (exec_txMove role hexec).keeps_inv (h.tx role)
  · intro role
    rw [hparams] at role
    exact (exec_rxMove role hexec).keeps_inv (h.rx role)

end

/-- Settles O53: a step takes an event, serves the latch or idles, and each operation keeps the
invariant. -/
theorem stepKeepsUnitInvariant : Obligations.StepKeepsUnitInvariant := by
  intro s t h hstep
  obtain ⟨e, rest, i, -, -, hexec⟩ | ⟨-, -, -, hexec⟩ | ⟨-, rfl⟩ := step_next hstep
  · exact exec_keeps_inv (h.consume rest) hexec
  · exact exec_keeps_inv h hexec
  · exact h

/-- Settles O52: nothing was sent, received or latched, and the transport is quiet. -/
theorem unitInvariantAtPowerOn : Obligations.UnitInvariantAtPowerOn := by
  intro p
  refine ⟨⟨fun _ => .of_nothing_since_reset ⟨0, rfl⟩ rfl rfl rfl rfl, fun _ => ?_⟩, ?_⟩
  · exact { idle := iff_of_true rfl rfl, armed := rfl, count := rfl, bounded := rfl, notSending := rfl }
  · exact { all := List.nil_sublist _, waiting := nofun }

/-! #### Who writes each element (R22, R24, R29, R38) -/

section
variable {i : Instr} {s t : State}

/-- What a completed operation does to `channel_free` (R22). -/
theorem exec_channelFree (h : exec i s = .next t) :
    t.channelFree = s.channelFree ∨
    (t.channelFree = false ∧
      ∃ f actions, i = .canFrame f ∧ t.trace = ⟨i, .admitted, actions⟩ :: s.trace) ∨
    (t.channelFree = true ∧ ((∃ status, i = .txDone status) ∨ i = .reset)) := by
  obtain ⟨-, move⟩ | ⟨-, move⟩ := exec_move h
  · cases move with
    | reset => exact .inr (.inr ⟨rfl, .inr rfl⟩)
    | admission f => exact .inr (.inl ⟨rfl, f, _, rfl, rfl⟩)
    | complete x => exact .inr (.inr ⟨rfl, .inl ⟨x, rfl⟩⟩)
    | _ => exact .inl rfl
  · obtain ⟨-, -, hfree, -⟩ := move.frame
    exact .inl hfree

/-- What a completed operation does to `seq`, and whether it is an admission (R24). -/
theorem exec_seq (h : exec i s = .next t) :
    (t.seq = s.seq ∧ t.trace.head?.map (·.tag) ≠ some .admitted) ∨
    (∃ f, i = .canFrame f ∧ t.seq = s.seq + 1 ∧
      t.trace = ⟨i, .admitted, [.beginTransmit (serialize s.seq f)]⟩ :: s.trace) ∨
    (i = .reset ∧ s.params.role = .tx ∧ t.trace.head?.map (·.tag) ≠ some .admitted) := by
  obtain ⟨role, move⟩ | ⟨-, move⟩ := exec_move h
  · cases move with
    | reset => exact .inr (.inr ⟨rfl, role, by simp⟩)
    | admission f => exact .inr (.inl ⟨f, rfl, rfl, rfl⟩)
    | _ => exact .inl ⟨rfl, by simp⟩
  · obtain ⟨-, -, -, hseq, -⟩ := move.frame
    refine .inl ⟨hseq, ?_⟩
    cases move with
    | service => cases judge s.rxLatch <;> simp [verdictTag]
    | _ => simp

/-- What a completed operation does to `rx_bad_count`, and whether it is a discard (R29). -/
theorem exec_rxBadCount (h : exec i s = .next t) :
    (t.rxBadCount = s.rxBadCount ∧
      ∀ cause, t.trace.head?.map (·.tag) ≠ some (.discarded cause)) ∨
    (i = .rxService ∧ t.rxBadCount = s.rxBadCount + 1 ∧
      ∃ cause, t.trace.head?.map (·.tag) = some (.discarded cause)) ∨
    (i = .reset ∧ s.params.role = .rx ∧
      ∀ cause, t.trace.head?.map (·.tag) ≠ some (.discarded cause)) := by
  obtain ⟨-, move⟩ | ⟨role, move⟩ := exec_move h
  · obtain ⟨-, -, -, -, hcount⟩ := move.frame
    refine .inl ⟨hcount, ?_⟩
    cases move <;> simp
  · cases move with
    | reset => exact .inr (.inr ⟨rfl, role, by simp⟩)
    | service =>
      cases judge s.rxLatch with
      | discard cause => exact .inr (.inl ⟨rfl, rfl, cause, rfl⟩)
      | quiet | forward record => exact .inl ⟨rfl, by simp [verdictTag]⟩
    | _ => exact .inl ⟨rfl, by simp⟩

/-- What a completed operation leaves of the configuration and of the unit the state does not hold. -/
theorem exec_frame (h : exec i s = .next t) : t.params = s.params ∧
    (s.params.role = .tx → t.rxStarted = s.rxStarted ∧ t.rxState = s.rxState ∧
      t.rxLatch = s.rxLatch ∧ t.rxBadCount = s.rxBadCount) ∧
    (s.params.role = .rx → t.txStarted = s.txStarted ∧ t.channelFree = s.channelFree ∧
      t.seq = s.seq ∧ t.txBuf = s.txBuf) :=
  ⟨exec_params h, fun role => (exec_txMove role h).frame.right,
    fun role => (exec_rxMove role h).frame.right⟩

end

/-- Settles O22: the element changes from true to false only by an admission, and back only by TX_DONE or
RESET. -/
theorem channelFreeWriters : Obligations.ChannelFreeWriters := by
  refine ⟨fun i s t h => ?_, fun _ => rfl⟩
  obtain hfree | ⟨hfree, hadmitted⟩ | ⟨hfree, hfreed⟩ := exec_channelFree h
  · exact ⟨fun hs ht => absurd (hs.symm.trans (hfree.symm.trans ht)) nofun,
      fun hs ht => absurd (hs.symm.trans (hfree.symm.trans ht)) nofun⟩
  · exact ⟨fun _ _ => hadmitted, fun _ ht => absurd (hfree.symm.trans ht) nofun⟩
  · exact ⟨fun _ ht => absurd (hfree.symm.trans ht) nofun, fun _ _ => hfreed⟩

/-- Settles O23: the packet admitted is the serialization of the old `seq`. -/
theorem seqWriters : Obligations.SeqWriters := by
  refine ⟨fun i s t h => ⟨fun htag => ?_, ?_, fun hne => ?_⟩, fun _ => rfl⟩
  · obtain ⟨-, hother⟩ | ⟨f, -, hseq, htrace⟩ | ⟨-, -, hother⟩ := exec_seq h
    · exact absurd htag hother
    · exact ⟨hseq, _, htrace, packetIdOf_serialize s.seq f⟩
    · exact absurd htag hother
  · rintro rfl role
    obtain ⟨-, rfl⟩ | ⟨role', -⟩ := execReset_next h
    · rfl
    · exact absurd (role.symm.trans role') nofun
  · obtain ⟨hseq, -⟩ | ⟨f, hi, -, htrace⟩ | ⟨hi, role, -⟩ := exec_seq h
    · exact absurd hseq hne
    · exact .inl ⟨by rw [htrace]; rfl, f, hi⟩
    · exact .inr ⟨hi, role⟩

/-- Settles O36: only a verdict that discards counts, and only RESET clears the count. -/
theorem badCountWriters : Obligations.BadCountWriters := by
  refine ⟨fun i s t h => ⟨fun cause htag => ?_, ?_, fun hne => ?_⟩, fun _ => rfl⟩
  · obtain ⟨-, hother⟩ | ⟨hi, hcount, -⟩ | ⟨-, -, hother⟩ := exec_rxBadCount h
    · exact absurd htag (hother cause)
    · exact ⟨hcount, hi⟩
    · exact absurd htag (hother cause)
  · rintro rfl role
    obtain ⟨role', -⟩ | ⟨-, rfl⟩ := execReset_next h
    · exact absurd (role.symm.trans role') nofun
    · rfl
  · obtain ⟨hcount, -⟩ | ⟨-, -, hdiscard⟩ | ⟨hi, role, -⟩ := exec_rxBadCount h
    · exact absurd hcount hne
    · exact .inl hdiscard
    · exact .inr ⟨hi, role⟩

/-- Settles O51: taking an event off the inbox and idling write no element, and an operation writes only
those of its own unit. -/
theorem configurationAndOtherUnitUntouched : Obligations.ConfigurationAndOtherUnitUntouched := by
  intro s t hstep
  obtain ⟨e, rest, i, -, -, hexec⟩ | ⟨-, -, -, hexec⟩ | ⟨-, rfl⟩ := step_next hstep
  · exact exec_frame (s := s.consume rest) hexec
  · exact exec_frame hexec
  · exact ⟨rfl, fun _ => ⟨rfl, rfl, rfl, rfl⟩, fun _ => ⟨rfl, rfl, rfl, rfl⟩⟩

/-- Settles O45: power-on writes each reset value of R37. -/
theorem powerOnValues : Obligations.PowerOnValues :=
  fun _ => ⟨rfl, rfl, rfl, rfl, rfl, rfl⟩

/-! #### The bits of STATUS (R33) -/

/-- STATUS is four flags, one to a bit from bit 0 on, and 0 above them. -/
theorem statusReg_getLsbD (s : State) :
    (statusReg s).getLsbD 0 = statusChannelFree s ∧ (statusReg s).getLsbD 1 = statusStarted s ∧
    (statusReg s).getLsbD 2 = statusRxArmed s ∧ (statusReg s).getLsbD 3 = statusRxPending s ∧
    ∀ i, 4 ≤ i → (statusReg s).getLsbD i = false := by
  simp only [statusReg, BitVec.getLsbD_append, BitVec.getLsbD_ofBool]
  refine ⟨by simp, by simp, by simp, by simp, fun i hi => ?_⟩
  simp [show ¬ i < 1 by omega, show ¬ i - 1 < 1 by omega, show ¬ i - 1 - 1 < 1 by omega,
    show ¬ i - 1 - 1 - 1 < 1 by omega]

section
variable {s : State}

/-- The flags of a TX unit. -/
theorem statusFlags_tx (role : s.params.role = .tx) : statusChannelFree s = s.channelFree ∧
    statusStarted s = s.txStarted ∧ statusRxArmed s = false ∧ statusRxPending s = false := by
  simp [statusChannelFree, statusStarted, statusRxArmed, statusRxPending, role]

/-- The flags of an RX unit. -/
theorem statusFlags_rx (role : s.params.role = .rx) : statusChannelFree s = false ∧
    statusStarted s = s.rxStarted ∧ statusRxArmed s = decide (s.rxState = .armed) ∧
    statusRxPending s = decide (s.rxState = .pending) := by
  simp [statusChannelFree, statusStarted, statusRxArmed, statusRxPending, rxArmed, rxPending, role]

end

/-- Settles O43: the bits are the flags, whose meaning depends on the role. -/
theorem statusBits : Obligations.StatusBits := by
  refine ⟨fun p => ?_, fun s => ?_⟩
  · obtain ⟨txStopped, free, -, rxStopped, idle, -⟩ := powerOnValues p
    constructor
    · intro role
      obtain ⟨hfree, hstarted, harmed, hpending⟩ := statusFlags_tx (s := State.powerOn p) role
      rw [statusReg, hfree, hstarted, harmed, hpending, txStopped, free]
      decide
    · intro role
      obtain ⟨hfree, hstarted, harmed, hpending⟩ := statusFlags_rx (s := State.powerOn p) role
      rw [statusReg, hfree, hstarted, harmed, hpending, rxStopped, idle]
      decide
  · obtain ⟨hbit0, hbit1, hbit2, hbit3, hreserved⟩ := statusReg_getLsbD s
    rw [hbit0, hbit1, hbit2, hbit3]
    exact ⟨statusFlags_tx, statusFlags_rx, hreserved⟩

end Sys2Proof.Machine

/-! ### Proofs about order and the transmit buffer (20_memory.md): a byte written is read back, the order
of two simultaneous events, and the order of what is latched, forwarded and sent. -/

namespace Sys2Proof.Machine

open Sys2Proof

/-! #### The transmit buffer (R44) -/

/-- Settles O10: the written offset and every other one, apart. -/
theorem bufferReadAfterWrite : Obligations.BufferReadAfterWrite := by
  intro m a c b
  split
  case isTrue h => rw [h, Memory.read_write_same]
  case isFalse h => exact Memory.read_write_ne m b h

/-! #### Two events in the two orders (R50) -/

theorem decode_encode_canFrame (f : CanFrame) :
    decode (encode (.canFrame f)).word (encode (.canFrame f)).payload = .ok (.canFrame f) :=
  calc decode (encode (.canFrame f)).word (encode (.canFrame f)).payload
    _ = decode 0x03 (.canFrame f.id f.length f.data.toList) := rfl
    _ = decodeCanFrame 0 (.canFrame f.id f.length f.data.toList) := rfl
    _ = .ok (.canFrame f) := by simp [decodeCanFrame, frameData_toList]

theorem decode_encode_txDone (status : TxStatus) :
    decode (encode (.txDone status)).word (encode (.txDone status)).payload = .ok (.txDone status) := by
  cases status <;> rfl

section
variable {s t : State}

/-- Two events presented at once are run one after the other, in the order in which they stand. -/
theorem run_two_of_inbox {i j : Instr} {u : State} (hinbox : s.inbox = [encode i, encode j])
    (hi : decode (encode i).word (encode i).payload = .ok i)
    (hj : decode (encode j).word (encode j).payload = .ok j)
    (first : exec i { s with inbox := [encode j] } = .next t) (hrest : t.inbox = [encode j])
    (second : exec j { t with inbox := [] } = .next u) : run 2 s = .next u := by
  have hfirst : step s = .next t := (stepRunsDecodedEvent s _ _ i hinbox hi).trans first
  have hsecond : step t = .next u := (stepRunsDecodedEvent t _ _ j hrest hj).trans second
  simp [run, hfirst, hsecond]

theorem exec_canFrame_of_busy (f : CanFrame) (role : s.params.role = .tx)
    (started : s.txStarted = true) (busy : s.channelFree = false) :
    exec (.canFrame f) s = .next (s.note (.canFrame f) .dropped []) := by
  simp [exec, execCanFrame, admitOrDrop, atUnit_of_role role, started, busy, State.conclude]

theorem exec_canFrame_of_free (f : CanFrame) (role : s.params.role = .tx)
    (started : s.txStarted = true) (free : s.channelFree = true) :
    exec (.canFrame f) s = .next ((s.admitFrame (serialize s.seq f)).note (.canFrame f) .admitted
      [.beginTransmit (serialize s.seq f)]) := by
  simp [exec, execCanFrame, admitOrDrop, atUnit_of_role role, started, free, State.conclude]

theorem exec_txDone_of_started (status : TxStatus) (role : s.params.role = .tx)
    (started : s.txStarted = true) :
    exec (.txDone status) s = .next (s.freeChannel.note (.txDone status) .completed []) := by
  simp [exec, execTxDone, atUnit_of_role role, started, State.conclude]

end

/-- Settles O25: the frame meets a busy channel in one order and a free one in the other. -/
theorem bothOrdersGiveDifferentResults : Obligations.BothOrdersGiveDifferentResults := by
  intro f status s role started busy
  constructor
  · intro hinbox
    have hrun := run_two_of_inbox hinbox (decode_encode_canFrame f) (decode_encode_txDone status)
      (exec_canFrame_of_busy f role started busy) rfl (exec_txDone_of_started status role started)
    exact ⟨_, hrun, rfl, rfl, by simp⟩
  · intro hinbox
    have hrun := run_two_of_inbox hinbox (decode_encode_txDone status) (decode_encode_canFrame f)
      (exec_txDone_of_started status role started) rfl (exec_canFrame_of_free f role started rfl)
    exact ⟨_, hrun, rfl, rfl, by simp⟩

/-! #### What a step latches and forwards (R121, R134) -/

/-- A `DATA` transfer stands in the latch, not yet serviced (R121). -/
def HoldsTransfer (s : State) : Prop := s.rxState = .pending ∧ s.rxLatch.outcome = .data

/-- What an operation can do to the transfers latched and the records forwarded. -/
inductive Reception (s : State) (i : Instr) (t : State) : Prop where
  | unchanged (transfers : latchedTransfers t.trace = latchedTransfers s.trace)
      (records : recorded t.trace = recorded s.trace)
      (held : HoldsTransfer t → HoldsTransfer s ∧ t.rxLatch = s.rxLatch)
  | latched (bytes : List Byte) (rssi snr : LQ) (event : i = .rxDoneData bytes rssi snr)
      (latch : t.rxLatch = ⟨.data, bytes, rssi, snr⟩)
      (transfers : latchedTransfers t.trace = latchedTransfers s.trace ++ [t.rxLatch])
      (records : recorded t.trace = recorded s.trace)
  | forwarded (r : Record) (held : HoldsTransfer s) (judged : forwardable s.rxLatch = some r)
      (transfers : latchedTransfers t.trace = latchedTransfers s.trace)
      (records : recorded t.trace = recorded s.trace ++ [r]) (serviced : ¬ HoldsTransfer t)

theorem forwardable_eq_some {l : RxLatch} {r : Record} :
    forwardable l = some r ↔ judge l = .forward r := by
  unfold forwardable
  cases judge l <;> simp

theorem latchedTransfer_of_tag_ne {r : StepRecord} (h : r.tag ≠ .latched) :
    latchedTransfer r = none := by
  unfold latchedTransfer
  split
  · exact absurd ‹_› h
  · rfl

section
variable {i : Instr} {s t u : State} {tag : Tag} {actions : List Action}

/-- A step that emits no record and latches no transfer. -/
theorem Reception.of_quiet (htrace : u.trace = s.trace)
    (htransfer : latchedTransfer ⟨i, tag, actions⟩ = none)
    (hrecords : actions.filterMap recordIn = [])
    (held : HoldsTransfer u → HoldsTransfer s ∧ u.rxLatch = s.rxLatch) :
    Reception s i (u.note i tag actions) :=
  .unchanged (by simp [htrace, htransfer]) (by simp [htrace, hrecords]) held

/-- A step that leaves the reception of its unit as it was. -/
theorem Reception.of_same (htrace : u.trace = s.trace) (htag : tag ≠ .latched)
    (hrecords : actions.filterMap recordIn = []) (hstate : u.rxState = s.rxState)
    (hlatch : u.rxLatch = s.rxLatch) : Reception s i (u.note i tag actions) :=
  .of_quiet htrace (latchedTransfer_of_tag_ne htag) hrecords fun ⟨pending, data⟩ =>
    ⟨⟨hstate ▸ pending, hlatch ▸ data⟩, hlatch⟩

theorem Reception.of_ignored : Reception s i (s.note i .ignored []) :=
  .of_same rfl nofun rfl rfl rfl

/-- `RX_SERVICE` forwards the record of the transfer held, if it finds one valid (R126, R134). -/
theorem Reception.of_service (pending : s.rxState = .pending) :
    Reception s .rxService ((s.countVerdict (judge s.rxLatch)).rearm.note .rxService
      (verdictTag (judge s.rxLatch)) (verdictActions (judge s.rxLatch) ++ [.beginReceive])) := by
  cases hv : judge s.rxLatch with
  | forward r =>
    obtain ⟨data, -⟩ := judge_forward hv
    exact .forwarded r ⟨pending, data⟩ (forwardable_eq_some.2 hv)
      (by simp [latchedTransfer, verdictTag, State.countVerdict])
      (by simp [verdictActions, State.countVerdict]) (by simp [HoldsTransfer])
  | quiet | discard cause =>
    exact .of_quiet (by simp) rfl (by simp [verdictActions]) (by simp [HoldsTransfer])

theorem exec_reception (h : exec i s = .next t) : Reception s i t := by
  obtain ⟨f, rfl, h⟩ | ⟨x, rfl, h⟩ | ⟨rfl, h⟩ | ⟨rfl, h⟩ | ⟨bytes, rssi, snr, rfl, h⟩ | ⟨o, hi, h⟩ |
    ⟨rfl, h⟩ | ⟨r, rfl, h⟩ := exec_next h
  · -- CAN_FRAME
    obtain ⟨-, ⟨-, rfl⟩ | ⟨-, -, rfl⟩ | ⟨-, -, rfl⟩⟩ := execCanFrame_next h
    · exact .of_ignored
    · exact .of_same rfl nofun rfl rfl rfl
    · exact .of_same rfl nofun rfl rfl rfl
  · -- TX_DONE
    obtain ⟨-, ⟨-, rfl⟩ | ⟨-, rfl⟩⟩ := execTxDone_next h
    · exact .of_ignored
    · exact .of_same rfl nofun rfl rfl rfl
  · -- RESET
    obtain ⟨-, rfl⟩ | ⟨-, rfl⟩ := execReset_next h
    · exact .of_same rfl nofun rfl rfl rfl
    · exact .of_quiet rfl rfl rfl (by simp [HoldsTransfer])
  · -- START
    obtain ⟨-, -, rfl⟩ | ⟨-, -, rfl⟩ | ⟨-, -, rfl⟩ | ⟨-, -, rfl⟩ := execStart_next h
    · exact .of_ignored
    · exact .of_same rfl nofun rfl rfl rfl
    · exact .of_ignored
    · exact .of_quiet rfl rfl rfl (by simp [HoldsTransfer])
  · -- RX_DONE with outcome DATA
    obtain ⟨-, -, ⟨-, -, rfl⟩ | ⟨-, rfl⟩⟩ := execRxDoneData_next h
    · exact .latched bytes rssi snr rfl rfl (by simp [latchedTransfer]) (by simp)
    · exact .of_ignored
  · -- RX_DONE with any other outcome
    obtain ⟨-, ⟨-, -, rfl⟩ | ⟨-, rfl⟩⟩ := latchOutcome_next h
    · simp only [List.mem_cons, Prod.mk.injEq, List.not_mem_nil, or_false] at hi
      obtain ⟨rfl, rfl⟩ | ⟨rfl, rfl⟩ | ⟨rfl, rfl⟩ | ⟨rfl, rfl⟩ := hi <;>
        exact .of_quiet rfl rfl rfl (by simp [HoldsTransfer])
    · exact .of_ignored
  · -- RX_SERVICE
    obtain ⟨-, pending, rfl⟩ := execRxService_next h
    exact .of_service pending
  · -- REG_READ
    obtain rfl := execRegRead_next h
    exact .of_same rfl nofun rfl rfl rfl

/-! #### What is forwarded was latched, in order (R54, R134, R138) -/

theorem Reception.keeps_forwardsLatched (h : Reception s i t) (hs : ForwardsLatched s) :
    ForwardsLatched t := by
  obtain ⟨all, waiting⟩ := hs
  cases h with
  | unchanged transfers records held =>
    constructor
    · rw [transfers, records]
      exact all
    · intro pending data
      obtain ⟨⟨pending', data'⟩, hlatch⟩ := held ⟨pending, data⟩
      rw [transfers, records, hlatch]
      exact waiting pending' data'
  | latched bytes rssi snr event latch transfers records =>
    constructor
    · rw [transfers, records, List.filterMap_append]
      exact all.trans (List.sublist_append_left _ _)
    · exact fun _ _ => ⟨latchedTransfers s.trace, transfers, records ▸ all⟩
  | forwarded r held judged transfers records serviced =>
    constructor
    · -- the transfer held is the last one latched, and no record came of it so far
      obtain ⟨before, hlast, hbefore⟩ := waiting held.1 held.2
      rw [transfers, records, hlast, List.filterMap_append]
      simpa [judged] using hbefore.append_right [r]
    · exact fun pending data => absurd ⟨pending, data⟩ serviced

theorem exec_keeps_forwardsLatched (hs : ForwardsLatched s) (h : exec i s = .next t) :
    ForwardsLatched t := (exec_reception h).keeps_forwardsLatched hs

/-- Events not yet taken are no part of what was latched and forwarded (log 1). -/
theorem ForwardsLatched.consume (h : ForwardsLatched s) (rest : List Event) :
    ForwardsLatched (s.consume rest) := { h with }

end

/-- Settles O39: a step takes an event, serves the latch or idles, and each operation keeps the order. -/
theorem stepKeepsForwardingOrder : Obligations.StepKeepsForwardingOrder := by
  intro s t h hstep
  obtain ⟨e, rest, i, -, -, hexec⟩ | ⟨-, -, -, hexec⟩ | ⟨-, rfl⟩ := step_next hstep
  · exact exec_keeps_forwardsLatched (h.consume rest) hexec
  · exact exec_keeps_forwardsLatched h hexec
  · exact h

/-! #### Runs of the system (R181) -/

section
variable {sys next : System} {i : Instr}

theorem System.carStep_some (h : sys.carStep i = some next) :
    carMay sys i = true ∧ ∃ c, exec i sys.car = .next c ∧
      next = { sys with
        car := c
        flight := flightAfter sys.flight c.trace
        delivered := deliveredAfter sys.delivered c.trace } := by
  unfold System.carStep at h
  split at h
  · split at h
    · exact ⟨‹_›, _, ‹_›, by simpa using h.symm⟩
    · cases h
    · cases h
  · cases h

theorem System.groundStep_some (h : sys.groundStep i = some next) :
    groundMay sys i = true ∧ ∃ g, exec i sys.ground = .next g ∧
      next = { sys with ground := g, arrived := arrivedAfter sys.arrived i } := by
  unfold System.groundStep at h
  split at h
  · split at h
    · exact ⟨‹_›, _, ‹_›, by simpa using h.symm⟩
    · cases h
    · cases h
  · cases h

theorem System.linkStep_some {fate : LinkFate} (h : sys.linkStep fate = some next) :
    ∃ bytes later, sys.flight = bytes :: later ∧
      next = { sys with
        flight := later
        arrived := (sys.receives bytes fate).or sys.arrived
        delivered := sys.delivered || (later.isEmpty && isData (sys.receives bytes fate)) } := by
  unfold System.linkStep at h
  split at h
  · cases h
  · exact ⟨_, _, ‹_›, by simpa using h.symm⟩

/-- What every allowed event keeps, every run of allowed events keeps. -/
theorem System.run_keeps {P : System → Prop} {allowed : SystemEvent → Bool}
    (keeps : ∀ {sys next : System} {e : SystemEvent},
      allowed e = true → P sys → sys.step e = some next → P next)
    {events : List SystemEvent} (hallowed : events.all allowed = true)
    (hrun : sys.run events = some next) (h : P sys) : P next := by
  induction events generalizing sys with
  | nil =>
    obtain rfl : sys = next := by simpa [System.run] using hrun
    exact h
  | cons e es ih =>
    simp only [List.all_cons, Bool.and_eq_true] at hallowed
    obtain ⟨he, hes⟩ := hallowed
    rw [System.run] at hrun
    split at hrun
    · cases hrun
    · exact ih hes hrun (keeps he h ‹_›)

end

/-! #### From the car's transport to the ground's latch, in order (R54, R174) -/

/-- The bytes of an arrival not yet reported, where it is a transfer. -/
def arrivedBytes : Option Instr → List (List Byte)
  | some (.rxDoneData bytes _ _) => [bytes]
  | _ => []

/-- What the ground latched, then what has arrived there, then what is on the air, are among the packets
transmitted, in order and each at most once. -/
structure InOrder (sys : System) : Prop where
  carRole : sys.car.params.role = .tx
  forwards : ForwardsLatched sys.ground
  order : ((latchedTransfers sys.ground.trace).map (·.bytes) ++ arrivedBytes sys.arrived
    ++ sys.flight).Sublist (transmitted sys.car.trace)

theorem inOrder_powerOn (seqInit : Word32) (rxMaxBytes : Nat) :
    InOrder (System.powerOn seqInit rxMaxBytes) where
  carRole := rfl
  forwards := (unitInvariantAtPowerOn _).2
  order := List.nil_sublist _

/-- An operation of the car's unit puts at most one packet on the air, the one it transmits (R111, R116). -/
theorem TxMove.flight {i : Instr} {s t : State} (move : TxMove s i t) (flight : List (List Byte)) :
    (∃ bytes, flightAfter flight t.trace = flight ++ [bytes] ∧
      transmitted t.trace = transmitted s.trace ++ [bytes]) ∨
    ((flightAfter flight t.trace).Sublist flight ∧ transmitted t.trace = transmitted s.trace) := by
  cases move with
  | admission f => exact .inl ⟨serialize s.seq f, rfl, by simp⟩
  | complete x | ignoreDone x =>
    cases x with
    | ok => exact .inr ⟨List.Sublist.refl _, by simp⟩
    | fail => exact .inr ⟨List.dropLast_sublist _, by simp⟩
  | _ => exact .inr ⟨List.Sublist.refl _, by simp⟩

theorem arrivedBytes_filter_sublist (p : Instr → Bool) (arrived : Option Instr) :
    (arrivedBytes (arrived.filter p)).Sublist (arrivedBytes arrived) := by
  cases arrived with
  | none => exact List.Sublist.refl _
  | some i =>
    rw [Option.filter_some]
    split
    · exact List.Sublist.refl _
    · exact List.nil_sublist _

/-- A link that alters nothing delivers the packet sent, or no transfer. -/
theorem arrivedBytes_arrival_sublist {fate : LinkFate} (h : unaltered (.link fate) = true)
    (listening : Bool) (sent : List Byte) :
    (arrivedBytes (arrival listening sent fate)).Sublist [sent] := by
  cases listening with
  | false => exact List.nil_sublist _
  | true =>
    cases fate with
    | intact rssi snr => exact List.Sublist.refl _
    | altered bytes rssi snr => exact absurd h nofun
    | failed how => cases how <;> exact List.nil_sublist _
    | lost => exact List.nil_sublist _

/-- The ground's transport holds one arrival: a packet comes to it only when it holds none (R120). -/
theorem arrivedBytes_receives_sublist {fate : LinkFate} (h : unaltered (.link fate) = true)
    (sys : System) (sent : List Byte) :
    (arrivedBytes ((sys.receives sent fate).or sys.arrived)).Sublist
      (arrivedBytes sys.arrived ++ [sent]) := by
  cases harrived : sys.arrived with
  | none =>
    simp only [System.receives, harrived, Option.isNone_none, if_true, Option.or_none]
    exact (arrivedBytes_filter_sublist _ _).trans (arrivedBytes_arrival_sublist h _ _)
  | some i =>
    simp only [System.receives, harrived, Option.isNone_some, Bool.false_eq_true, if_false,
      Option.none_or]
    exact List.sublist_append_left _ _

theorem arrivedBytes_after_sublist (arrived : Option Instr) (i : Instr) :
    (arrivedBytes (arrivedAfter arrived i)).Sublist (arrivedBytes arrived) := by
  cases i <;> simp [arrivedAfter, arrivedBytes]

section
variable {sys next : System} {i : Instr}

theorem InOrder.carStep (h : InOrder sys) (hstep : sys.carStep i = some next) : InOrder next := by
  obtain ⟨-, c, hexec, rfl⟩ := System.carStep_some hstep
  refine ⟨exec_params hexec ▸ h.carRole, h.forwards, ?_⟩
  obtain ⟨bytes, hflight, hsent⟩ | ⟨hflight, hsent⟩ := (exec_txMove h.carRole hexec).flight sys.flight
  · simpa only [hflight, hsent, List.append_assoc] using h.order.append_right [bytes]
  · simpa only [hsent] using (hflight.append_left _).trans h.order

theorem InOrder.groundStep (h : InOrder sys) (hstep : sys.groundStep i = some next) :
    InOrder next := by
  obtain ⟨hmay, g, hexec, rfl⟩ := System.groundStep_some hstep
  refine ⟨h.carRole, exec_keeps_forwardsLatched h.forwards hexec, ?_⟩
  have horder := h.order
  cases exec_reception hexec with
  | unchanged transfers | forwarded _ _ _ transfers =>
    simp only [transfers]
    exact (((arrivedBytes_after_sublist sys.arrived i).append_left _).append_right _).trans horder
  | latched bytes rssi snr event latch transfers =>
    -- the transfer latched is the arrival reported (R172)
    subst event
    have harrived : sys.arrived = some (.rxDoneData bytes rssi snr) := by simpa [groundMay] using hmay
    simpa [transfers, latch, arrivedAfter, arrivedBytes, harrived] using horder

theorem InOrder.linkStep (h : InOrder sys) {fate : LinkFate} (hfate : unaltered (.link fate) = true)
    (hstep : sys.linkStep fate = some next) : InOrder next := by
  obtain ⟨bytes, later, hflight, rfl⟩ := System.linkStep_some hstep
  refine ⟨h.carRole, h.forwards, ?_⟩
  have horder := h.order
  rw [hflight, ← List.singleton_append, ← List.append_assoc, List.append_assoc (List.map _ _)]
    at horder
  exact (((arrivedBytes_receives_sublist hfate sys bytes).append_left _).append_right _).trans horder

theorem InOrder.step (h : InOrder sys) {e : SystemEvent} (he : unaltered e = true)
    (hstep : sys.step e = some next) : InOrder next := by
  cases e with
  | atCar i => exact h.carStep hstep
  | atGround i => exact h.groundStep hstep
  | link fate => exact h.linkStep he hstep

end

/-- A record carries the fields of the packet latched (R133, R134). -/
theorem stripLq_of_forwardable {l : RxLatch} {r : Record} (h : forwardable l = some r) :
    stripLq r = recordOfPacket l.bytes := by
  obtain ⟨-, -, -, rfl⟩ := judge_forward (forwardable_eq_some.1 h)
  rfl

theorem forwardable_records_sublist (transfers : List RxLatch) :
    ((transfers.filterMap forwardable).map stripLq).Sublist
      ((transfers.map (·.bytes)).map recordOfPacket) := by
  induction transfers with
  | nil => exact List.Sublist.refl _
  | cons l ls ih =>
    cases hl : forwardable l with
    | none => simpa [List.filterMap_cons_none hl] using ih.cons (recordOfPacket l.bytes)
    | some r =>
      simpa [List.filterMap_cons_some hl, stripLq_of_forwardable hl] using
        ih.cons_cons (recordOfPacket l.bytes)

/-- Records come of latched transfers, and those of packets transmitted. -/
theorem InOrder.records_sublist {sys : System} (h : InOrder sys) :
    ((recorded sys.ground.trace).map stripLq).Sublist
      ((transmitted sys.car.trace).map recordOfPacket) := by
  have latched : ((latchedTransfers sys.ground.trace).map (·.bytes)).Sublist
      (transmitted sys.car.trace) := by
    refine List.Sublist.trans ?_ h.order
    rw [List.append_assoc]
    exact List.sublist_append_left _ _
  exact ((h.forwards.all.map stripLq).trans (forwardable_records_sublist _)).trans
    (latched.map recordOfPacket)

/-- Settles O58: every event over such a link keeps the order of what is latched, arrived and on the
air. -/
theorem recordsFollowTransmissions : Obligations.RecordsFollowTransmissions := by
  intro seqInit rxMaxBytes events sys hlink hrun
  have horder : InOrder sys := System.run_keeps (P := InOrder)
    (fun he h hstep => h.step he hstep) hlink hrun (inOrder_powerOn _ _)
  exact horder.records_sublist

/-! #### The packetIds of a car that is not reset (R54, R118) -/

/-- The car's unit keeps its invariant and was never reset: all it transmitted counts from SEQ_INIT. -/
structure CarUnreset (p : Params) (sys : System) : Prop where
  params : sys.car.params = p
  inv : Inv sys.car
  unreset : sinceReset sys.car.trace = sys.car.trace

theorem exec_trace {i : Instr} {s t : State} (h : exec i s = .next t) :
    ∃ tag actions, t.trace = ⟨i, tag, actions⟩ :: s.trace := by
  obtain rfl | ⟨u, tag, actions, rfl, htrace, -⟩ := exec_ignores_or_takesEffect h
  · exact ⟨_, _, rfl⟩
  · exact ⟨tag, actions, by rw [State.note_trace, htrace]⟩

theorem CarUnreset.carStep {p : Params} {sys next : System} {i : Instr} (h : CarUnreset p sys)
    (hi : i ≠ .reset) (hstep : sys.carStep i = some next) : CarUnreset p next := by
  obtain ⟨-, c, hexec, rfl⟩ := System.carStep_some hstep
  obtain ⟨tag, actions, htrace⟩ := exec_trace hexec
  exact {
    params := (exec_params hexec).trans h.params
    inv := exec_keeps_inv h.inv hexec
    unreset := by
      show sinceReset c.trace = c.trace
      rw [htrace, sinceReset_cons _ _ hi, h.unreset] }

theorem CarUnreset.step {p : Params} {sys next : System} {e : SystemEvent} (h : CarUnreset p sys)
    (he : notCarReset e = true) (hstep : sys.step e = some next) : CarUnreset p next := by
  cases e with
  | atCar i => exact h.carStep (by simpa [notCarReset] using he) hstep
  | atGround i =>
    obtain ⟨-, g, -, rfl⟩ := System.groundStep_some hstep
    exact { h with }
  | link fate =>
    obtain ⟨bytes, later, -, rfl⟩ := System.linkStep_some hstep
    exact { h with }

theorem CarUnreset.ids_consecutive {p : Params} {sys : System} (h : CarUnreset p sys)
    (role : p.role = .tx) : (transmitted sys.car.trace).map packetIdOf
      = consecutive p.seqInit (transmitted sys.car.trace).length := by
  have hids := (h.inv.tx (h.params ▸ role)).ids
  rwa [IdsConsecutive, h.unreset, h.params] at hids

/-- Settles O59: the records are of packets transmitted, in order, whose packetIds are consecutive. -/
theorem recordedIdsAscendWithGaps : Obligations.RecordedIdsAscendWithGaps := by
  intro seqInit rxMaxBytes events sys hlink hcar hrun
  have hunreset : CarUnreset ⟨.tx, seqInit, rxMaxBytes⟩ sys := System.run_keeps
    (P := CarUnreset _) (fun he h hstep => h.step he hstep) hcar hrun
    ⟨rfl, (unitInvariantAtPowerOn _).1, rfl⟩
  have hrecords := (recordsFollowTransmissions _ _ _ _ hlink hrun).map (·.packetId)
  have hids : ((transmitted sys.car.trace).map recordOfPacket).map (·.packetId)
      = (transmitted sys.car.trace).map packetIdOf := by
    rw [List.map_map]
    rfl
  rw [hids, hunreset.ids_consecutive rfl, List.map_map] at hrecords
  exact hrecords

end Sys2Proof.Machine

/-! ### Proofs about the encoding (30_encoding.md): decoder and encoder are inverse to each other, the two
lists of R77 and R78, and what refuses an event. -/

namespace Sys2Proof.Machine

open Sys2Proof

/-! #### Decoding what was encoded (R70 to R74) -/

/-- The `op` field of a word put together from its fields (R70). -/
@[simp] theorem opField_append (sub op : BitVec 4) : opField (sub ++ op) = op := by
  decide +revert

/-- The `sub` field of a word put together from its fields (R70). -/
@[simp] theorem subField_append (sub op : BitVec 4) : subField (sub ++ op) = sub := by
  decide +revert

theorem decode_encode_regRead (r : BitVec 4) :
    decode (encode (.regRead r)).word (encode (.regRead r)).payload = .ok (.regRead r) := by
  show decode (r ++ (0x7 : BitVec 4)) .empty = _
  simp [decode, decodeBare]

theorem decode_encode_rxDoneData (bytes : List Byte) (rssi snr : LQ) :
    decode (encode (.rxDoneData bytes rssi snr)).word (encode (.rxDoneData bytes rssi snr)).payload
      = .ok (.rxDoneData bytes rssi snr) :=
  calc decode (encode (.rxDoneData bytes rssi snr)).word (encode (.rxDoneData bytes rssi snr)).payload
    _ = decode 0x05 (.rxData bytes rssi snr) := rfl
    _ = decodeRxDone 0 (.rxData bytes rssi snr) := rfl
    _ = .ok (.rxDoneData bytes rssi snr) := rfl

/-- Settles O1: an operation without operands decodes by evaluation; the four with operands go by their
own lemmas. -/
theorem decodeOfEncode : Obligations.DecodeOfEncode := by
  intro i
  cases i with
  | canFrame f => exact decode_encode_canFrame f
  | txDone status => exact decode_encode_txDone status
  | regRead r => exact decode_encode_regRead r
  | rxDoneData bytes rssi snr => exact decode_encode_rxDoneData bytes rssi snr
  | reset | start | rxDoneTimeout | rxDoneIntegrityFail | rxDoneHeaderFail
  | rxDoneTransportError | rxService => rfl

/-! #### Encoding what was decoded: each part of the decoder, at its operation code -/

section
variable {sub : BitVec 4} {p : Payload} {i : Instr}

/-- An operation without payload decoded under a word that encodes it. -/
theorem encode_of_decodeBare {w : Byte} {j : Instr} (h : decodeBare p j = .ok i)
    (hj : encode j = ⟨w, .empty⟩) : encode i = ⟨w, p⟩ := by
  obtain ⟨rfl, rfl⟩ := decodeBare_ok h
  exact hj

theorem encode_of_decodeNoSub {op : BitVec 4} {j : Instr} (h : decodeNoSub sub p j = .ok i)
    (hj : encode j = ⟨(0 : BitVec 4) ++ op, .empty⟩) : encode i = ⟨sub ++ op, p⟩ := by
  obtain ⟨rfl, rfl, rfl⟩ := decodeNoSub_ok h
  exact hj

theorem encode_of_decodeCanFrame (h : decodeCanFrame sub p = .ok i) :
    encode i = ⟨sub ++ (0x3 : BitVec 4), p⟩ := by
  unfold decodeCanFrame at h
  split at h
  case isFalse => cases h
  case isTrue hsub =>
    subst hsub
    split at h
    case h_2 | h_3 => cases h
    case h_1 id length data =>
      split at h
      case h_2 => cases h
      case h_1 bytes hdata =>
        cases h
        rw [← frameData_some hdata]
        rfl

/-- A `sub` whose upper three bits are 0 is the status bit alone (R73). -/
theorem sub_eq_status : ∀ sub : BitVec 4, sub.extractLsb' 1 3 = 0 →
    sub = if sub.getLsbD 0 then 1 else 0 := by decide

theorem encode_of_decodeTxDone (h : decodeTxDone sub p = .ok i) :
    encode i = ⟨sub ++ (0x4 : BitVec 4), p⟩ := by
  unfold decodeTxDone at h
  split at h
  case isFalse => cases h
  case isTrue hreserved =>
    refine encode_of_decodeBare h ?_
    have hstatus := sub_eq_status sub hreserved
    split at hstatus <;> rw [hstatus] <;> rfl

/-- A 4-bit field whose value is a given code. -/
theorem field_of_code {field : BitVec 4} {code : Nat} (h : field.toNat = code) :
    field = BitVec.ofNat 4 code := by
  rw [← h, BitVec.ofNat_toNat, BitVec.setWidth_eq]

theorem encode_of_decodeRxDone (h : decodeRxDone sub p = .ok i) :
    encode i = ⟨sub ++ (0x5 : BitVec 4), p⟩ := by
  unfold decodeRxDone at h
  split at h
  case h_1 hcode =>
    rw [field_of_code hcode]
    cases p with
    | rxData bytes rssi snr => cases h; rfl
    | empty | canFrame => cases h
  case h_2 hcode | h_3 hcode | h_4 hcode | h_5 hcode =>
    rw [field_of_code hcode]
    exact encode_of_decodeBare h rfl
  case h_6 => cases h

end

/-- Settles O2: the word is its two fields, and each operation code has its part of the decoder. -/
theorem encodeOfDecode : Obligations.EncodeOfDecode := by
  intro w p i h
  rw [word_eq_sub_op w]
  unfold decode at h
  split at h
  case h_1 hop | h_2 hop | h_6 hop => rw [field_of_code hop]; exact encode_of_decodeNoSub h rfl
  case h_3 hop => rw [field_of_code hop]; exact encode_of_decodeCanFrame h
  case h_4 hop => rw [field_of_code hop]; exact encode_of_decodeTxDone h
  case h_5 hop => rw [field_of_code hop]; exact encode_of_decodeRxDone h
  case h_7 hop => rw [field_of_code hop]; exact encode_of_decodeBare h rfl
  case h_8 => cases h

/-- Settles O5: each word by evaluation. -/
theorem sampleWordsDecode : Obligations.SampleWordsDecode :=
  ⟨rfl, rfl, rfl, rfl, rfl⟩

/-! #### What refuses an operation (R77, R126) -/

section
variable {s : State} {i : Instr}

theorem atUnit_of_role_ne {r : Role} {k : Result} (h : s.params.role ≠ r) :
    s.atUnit r k = .refused .otherUnit := if_neg h

/-- An operation of one unit only asks for the role of that unit first (R71). -/
theorem exec_eq_atUnit {r : Role} (h : unitOf i = some r) : ∃ k, exec i s = s.atUnit r k := by
  cases i with
  | reset | start | regRead => cases h
  | canFrame | txDone | rxDoneData | rxDoneTimeout | rxDoneIntegrityFail | rxDoneHeaderFail
  | rxDoneTransportError | rxService => cases h; exact ⟨_, rfl⟩

theorem exec_refused_otherUnit {r : Role} (h : unitOf i = some r) (role : s.params.role ≠ r) :
    exec i s = .refused .otherUnit := by
  obtain ⟨k, hexec⟩ := exec_eq_atUnit (s := s) h
  rw [hexec, atUnit_of_role_ne role]

theorem exec_rxDoneData_refused {bytes : List Byte} {rssi snr : LQ} (role : s.params.role = .rx)
    (h : fits bytes s.params.rxMaxBytes = false) :
    exec (.rxDoneData bytes rssi snr) s = .refused .payloadTooLong := by
  rw [exec, execRxDoneData, atUnit_of_role role, if_neg (by simp [h])]

theorem exec_rxService_refused (role : s.params.role = .rx) (h : s.rxState ≠ .pending) :
    exec .rxService s = .refused .serviceNotEnabled := by
  rw [exec, execRxService, atUnit_of_role role, if_neg h]

end

/-- Settles O50: the test of the role comes before any other, that of the byte count next. -/
theorem stopsByName : Obligations.StopsByName := by
  intro i s
  refine ⟨fun r => exec_refused_otherUnit, ?_⟩
  rintro bytes rssi snr rfl role hlong
  have hfits : ¬ fits bytes s.params.rxMaxBytes = true := fun h => by
    have := fits_iff.mp h
    omega
  exact exec_rxDoneData_refused role (by simpa using hfits)

/-! #### Which operations complete (R77, R161) -/

/-- A well-formed operation is of both units or of the unit the parameters name, within its bound. -/
theorem wellFormed_iff {p : Params} {i : Instr} : wellFormed p i = true ↔
    (∀ r, unitOf i = some r → p.role = r) ∧ operandFits p i = true := by
  cases h : unitOf i <;> simp [wellFormed, unitMatches, h]

section
variable (s : State) {i : Instr}

theorem conclude_completes (i : Instr) (tag : Tag) (actions : List Action) :
    ∃ t, s.conclude i tag actions = .next t := ⟨_, rfl⟩

theorem latchReport_completes (i : Instr) (latched : State) :
    ∃ t, latchReport i s latched = .next t := by
  unfold latchReport
  split <;> exact conclude_completes _ _ _ _

theorem admitOrDrop_completes (f : CanFrame) : ∃ t, admitOrDrop f s = .next t := by
  unfold admitOrDrop
  split <;> exact conclude_completes _ _ _ _

theorem execStart_completes : ∃ t, execStart s = .next t := by
  unfold execStart
  split
  · unfold startTxUnit
    split <;> exact conclude_completes _ _ _ _
  · unfold startRxUnit
    split <;> exact conclude_completes _ _ _ _

theorem execReset_completes : ∃ t, execReset s = .next t := by
  unfold execReset
  split <;> exact conclude_completes _ _ _ _

variable {s}

theorem execCanFrame_completes (f : CanFrame) (role : s.params.role = .tx) :
    ∃ t, execCanFrame f s = .next t := by
  rw [execCanFrame, atUnit_of_role role]
  split
  · exact admitOrDrop_completes s f
  · exact conclude_completes _ _ _ _

theorem execTxDone_completes (status : TxStatus) (role : s.params.role = .tx) :
    ∃ t, execTxDone status s = .next t := by
  rw [execTxDone, atUnit_of_role role]
  split <;> exact conclude_completes _ _ _ _

theorem execRxDoneData_completes (bytes : List Byte) (rssi snr : LQ) (role : s.params.role = .rx)
    (h : fits bytes s.params.rxMaxBytes = true) : ∃ t, execRxDoneData bytes rssi snr s = .next t := by
  rw [execRxDoneData, atUnit_of_role role, if_pos h]
  exact latchReport_completes _ _ _

theorem latchOutcome_completes (i : Instr) (outcome : RxOutcome) (role : s.params.role = .rx) :
    ∃ t, latchOutcome i outcome s = .next t := by
  rw [latchOutcome, atUnit_of_role role]
  exact latchReport_completes _ _ _

theorem execRxService_completes (role : s.params.role = .rx) (pending : s.rxState = .pending) :
    ∃ t, execRxService s = .next t := by
  rw [execRxService, atUnit_of_role role, if_pos pending]
  exact conclude_completes _ _ _ _

/-- An operation the unit accepts completes, where it is not an `RX_SERVICE` that is not enabled. -/
theorem exec_completes (hwf : wellFormed s.params i = true)
    (enabled : i = .rxService → s.rxState = .pending) : ∃ t, exec i s = .next t := by
  obtain ⟨hunit, hfits⟩ := wellFormed_iff.mp hwf
  cases i with
  | reset => exact execReset_completes s
  | start => exact execStart_completes s
  | canFrame f => exact execCanFrame_completes f (hunit _ rfl)
  | txDone status => exact execTxDone_completes status (hunit _ rfl)
  | rxDoneData bytes rssi snr => exact execRxDoneData_completes bytes rssi snr (hunit _ rfl) hfits
  | rxDoneTimeout | rxDoneIntegrityFail | rxDoneHeaderFail | rxDoneTransportError =>
    exact latchOutcome_completes _ _ (hunit _ rfl)
  | rxService => exact execRxService_completes (hunit _ rfl) (enabled rfl)
  | regRead r => exact conclude_completes _ _ _ _

/-- An operand is out of its bound only in a `DATA` outcome (R28). -/
theorem operandFits_eq_false {p : Params} (h : operandFits p i = false) :
    ∃ bytes rssi snr, i = .rxDoneData bytes rssi snr ∧ fits bytes p.rxMaxBytes = false := by
  cases i with
  | rxDoneData bytes rssi snr => exact ⟨bytes, rssi, snr, rfl, h⟩
  | _ => cases h

theorem exec_refused_of_not_wellFormed (h : wellFormed s.params i = false) :
    ∃ why, exec i s = .refused why := by
  by_cases hunit : ∀ r, unitOf i = some r → s.params.role = r
  · have hfits : operandFits s.params i = false := by
      by_contra hfits
      simp [wellFormed_iff.mpr ⟨hunit, by simpa using hfits⟩] at h
    obtain ⟨bytes, rssi, snr, rfl, hlong⟩ := operandFits_eq_false hfits
    exact ⟨_, exec_rxDoneData_refused (hunit _ rfl) hlong⟩
  · push Not at hunit
    obtain ⟨r, hr, role⟩ := hunit
    exact ⟨_, exec_refused_otherUnit hr role⟩

/-- `RX_SERVICE` outside PENDING is refused at either unit (R77, R126). -/
theorem exec_rxService_refused_of_not_pending (h : s.rxState ≠ .pending) :
    ∃ why, exec .rxService s = .refused why := by
  by_cases role : s.params.role = .rx
  · exact ⟨_, exec_rxService_refused role h⟩
  · exact ⟨_, exec_refused_otherUnit rfl role⟩

end

/-- Settles O49: what is accepted and enabled completes, and so is not refused; what is not has its
refusal by name. -/
theorem refusedExactlyWhenNotAccepted : Obligations.RefusedExactlyWhenNotAccepted := by
  intro i s
  refine ⟨⟨?_, ?_⟩, exec_completes⟩
  · rintro ⟨why, hrefused⟩
    by_contra haccepted
    simp only [not_or, Bool.not_eq_false, not_and, not_not] at haccepted
    obtain ⟨hwf, enabled⟩ := haccepted
    obtain ⟨t, hnext⟩ := exec_completes hwf enabled
    simp [hnext] at hrefused
  · rintro (hwf | ⟨rfl, hstate⟩)
    · exact exec_refused_of_not_wellFormed hwf
    · exact exec_rxService_refused_of_not_pending hstate

/-! #### The events that spell an operation of a unit (R77, R78) -/

section
variable {r : Role} {w : Byte} {p : Payload} {i : Instr}

/-- Whether a unit takes an operation (R71, column "unit"). -/
def takenBy (r : Role) (i : Instr) : Prop := unitOf i = none ∨ unitOf i = some r

/-- An event spells an operation of a unit exactly when it is the encoding of one that the unit takes. -/
theorem spells_iff_encode : spells r w p ↔ ∃ i, encode i = ⟨w, p⟩ ∧ takenBy r i := by
  constructor
  · rintro ⟨i, hdecode, htaken⟩
    exact ⟨i, encodeOfDecode w p i hdecode, htaken⟩
  · rintro ⟨i, hencode, htaken⟩
    exact ⟨i, by simpa [hencode] using decodeOfEncode i, htaken⟩

/-- The words of `REG_READ`, one for each register (R74, R78). -/
theorem mem_readWords : w ∈ readWords ↔ ∃ k, encodeWord (.regRead k) = w := by
  constructor
  · have hword : ∀ w ∈ readWords, encodeWord (.regRead (subField w)) = w := by decide
    exact fun h => ⟨_, hword w h⟩
  · have hmem : ∀ k : BitVec 4, encodeWord (.regRead k) ∈ readWords := by decide
    rintro ⟨k, rfl⟩
    exact hmem k

theorem takenBy.role_eq {r' : Role} (h : takenBy r i) (hunit : unitOf i = some r') : r' = r := by
  simpa [takenBy, hunit] using h

theorem exists_unit_of_not_takenBy (h : ¬ takenBy r i) : ∃ r', unitOf i = some r' ∧ r ≠ r' := by
  cases hunit : unitOf i with
  | none => exact absurd (.inl hunit) h
  | some r' => exact ⟨r', rfl, fun hr => h (.inr (hr ▸ hunit))⟩

theorem encodeWord_mem_acceptedWords (h : takenBy r i) : encodeWord i ∈ acceptedWords r := by
  cases i with
  | reset | start => cases r <;> simp [acceptedWords, encodeWord]
  | canFrame => cases h.role_eq rfl; simp [acceptedWords, encodeWord]
  | txDone status =>
    cases h.role_eq rfl
    cases status <;> simp [acceptedWords, encodeWord]
  | rxDoneData | rxDoneTimeout | rxDoneIntegrityFail | rxDoneHeaderFail
  | rxDoneTransportError | rxService => cases h.role_eq rfl; simp [acceptedWords, encodeWord]
  | regRead k => cases r <;> exact List.mem_append_right _ (mem_readWords.mpr ⟨k, rfl⟩)

/-- Each accepted word is that of an operation the unit takes. -/
theorem exists_encodeWord_of_mem (h : w ∈ acceptedWords r) : ∃ i, encodeWord i = w ∧ takenBy r i := by
  cases r <;> obtain h | h := List.mem_append.mp h
  case tx.inr | rx.inr =>
    obtain ⟨k, hk⟩ := mem_readWords.mp h
    exact ⟨.regRead k, hk, .inl rfl⟩
  case tx.inl =>
    simp only [List.mem_cons, List.not_mem_nil, or_false] at h
    obtain rfl | rfl | rfl | rfl | rfl := h
    · exact ⟨.reset, rfl, .inl rfl⟩
    · exact ⟨.start, rfl, .inl rfl⟩
    · exact ⟨.canFrame ⟨0, 0, .replicate 8 0⟩, rfl, .inr rfl⟩
    · exact ⟨.txDone .ok, rfl, .inr rfl⟩
    · exact ⟨.txDone .fail, rfl, .inr rfl⟩
  case rx.inl =>
    simp only [List.mem_cons, List.not_mem_nil, or_false] at h
    obtain rfl | rfl | rfl | rfl | rfl | rfl | rfl | rfl := h
    · exact ⟨.reset, rfl, .inl rfl⟩
    · exact ⟨.start, rfl, .inl rfl⟩
    · exact ⟨.rxDoneData [] .zero .zero, rfl, .inr rfl⟩
    · exact ⟨.rxDoneTimeout, rfl, .inr rfl⟩
    · exact ⟨.rxDoneIntegrityFail, rfl, .inr rfl⟩
    · exact ⟨.rxDoneHeaderFail, rfl, .inr rfl⟩
    · exact ⟨.rxDoneTransportError, rfl, .inr rfl⟩
    · exact ⟨.rxService, rfl, .inr rfl⟩

/-- Only CAN_FRAME and RX_DONE with outcome DATA have a payload (R66, R72). -/
theorem encodePayload_eq_empty (hframe : encodeWord i ≠ 0x03) (hdata : encodeWord i ≠ 0x05) :
    encodePayload i = .empty := by
  cases i with
  | canFrame => exact absurd rfl hframe
  | rxDoneData => exact absurd rfl hdata
  | _ => rfl

/-- An encoding has the payload its word selects (R70, R71). -/
theorem shapeMatches_encode (i : Instr) : shapeMatches (encodeWord i) (encodePayload i) = true := by
  cases i with
  | canFrame f => simp [shapeMatches, encodeWord, encodePayload]
  | txDone status => cases status <;> rfl
  | regRead k =>
    have hword : ∀ k, shapeMatches (encodeWord (.regRead k)) .empty = true := by decide
    exact hword k
  | _ => rfl

/-- The payload of zeros has the shape of its word: every word selects some payload. -/
theorem shapeMatches_zeroPayload (w : Byte) : shapeMatches w (zeroPayload w) = true := by
  unfold zeroPayload
  split
  case isTrue hframe => simp [shapeMatches, hframe]
  case isFalse hframe =>
    split
    case isTrue hdata => simp [shapeMatches, hdata]
    case isFalse hdata => simpa [shapeMatches] using ⟨hframe, hdata⟩

/-- A payload of its word's shape completes an accepted word to the encoding of an operation. -/
theorem exists_encode_of_mem (hword : w ∈ acceptedWords r) (hshape : shapeMatches w p = true) :
    ∃ i, encode i = ⟨w, p⟩ ∧ takenBy r i := by
  cases p with
  | empty =>
    simp only [shapeMatches, Bool.and_eq_true, bne_iff_ne] at hshape
    obtain ⟨hframe, hdata⟩ := hshape
    obtain ⟨i, rfl, htaken⟩ := exists_encodeWord_of_mem hword
    exact ⟨i, by rw [encode, encodePayload_eq_empty hframe hdata], htaken⟩
  | canFrame id length data =>
    simp only [shapeMatches, Bool.and_eq_true, decide_eq_true_eq] at hshape
    obtain ⟨rfl, hlength⟩ := hshape
    obtain ⟨bytes, hdata⟩ := Option.isSome_iff_exists.mp (frameData_isSome.mpr hlength)
    have role : r = .tx := by revert hword; cases r <;> decide
    refine ⟨.canFrame ⟨id, length, bytes⟩, ?_, .inr (role ▸ rfl)⟩
    rw [← frameData_some hdata]
    rfl
  | rxData bytes rssi snr =>
    simp only [shapeMatches, decide_eq_true_eq] at hshape
    subst hshape
    have role : r = .rx := by revert hword; cases r <;> decide
    exact ⟨.rxDoneData bytes rssi snr, rfl, .inr (role ▸ rfl)⟩

/-- R78 with the payloads: an event spells an operation of a unit exactly when its word is accepted there
and its payload has the shape the word selects. -/
theorem spells_iff : spells r w p ↔ w ∈ acceptedWords r ∧ shapeMatches w p = true := by
  rw [spells_iff_encode]
  constructor
  · rintro ⟨i, hencode, htaken⟩
    cases hencode
    exact ⟨encodeWord_mem_acceptedWords htaken, shapeMatches_encode i⟩
  · rintro ⟨hword, hshape⟩
    exact exists_encode_of_mem hword hshape

/-- R77 against R78: beside the payload's shape, the conditions of R77 speak of the 256 words alone, and
hold of those that are not in the list. -/
theorem refusedBy_iff : refusedBy r w p ↔ w ∉ acceptedWords r ∨ shapeMatches w p = false := by
  cases hshape : shapeMatches w p with
  | false => simp [refusedBy, hshape]
  | true =>
    simp only [refusedBy, hshape, Bool.true_eq_false, or_false]
    clear hshape
    revert w
    cases r <;> decide

/-- An event that spells no operation of the unit is refused: by the decoder, or by an operation of the
other unit (R8, R77). -/
theorem step_refused_of_not_spells {s : State} {rest : List Event} (hinbox : s.inbox = ⟨w, p⟩ :: rest)
    (h : ¬ spells s.params.role w p) : ∃ why, step s = .refused why := by
  rw [step_of_inbox_cons hinbox]
  cases hdecode : decode w p with
  | refused why => exact ⟨.noOperation why, by simp [takeEvent, hdecode]⟩
  | ok i =>
    have hother : ¬ takenBy s.params.role i := fun htaken => h ⟨i, hdecode, htaken⟩
    obtain ⟨r', hunit, hne⟩ := exists_unit_of_not_takenBy hother
    exact ⟨.otherUnit, (takeEvent_of_decode_ok hdecode _).trans (exec_refused_otherUnit hunit hne)⟩

end

/-- Settles O3: some payload always has the shape a word selects, so the word alone decides. -/
theorem acceptedWordsAreExactlyTheTable : Obligations.AcceptedWordsAreExactlyTheTable := by
  constructor
  · intro r w
    constructor
    · rintro ⟨p, hspells⟩
      exact (spells_iff.mp hspells).1
    · exact fun hword => ⟨zeroPayload w, spells_iff.mpr ⟨hword, shapeMatches_zeroPayload w⟩⟩
  · intro s w p rest hinbox hword
    exact step_refused_of_not_spells hinbox fun hspells => hword (spells_iff.mp hspells).1

/-- Settles O4: R77 is the negation of R78 with the payload's shape. -/
theorem refusedWordsAreExactlyReserved : Obligations.RefusedWordsAreExactlyReserved := by
  intro s w p rest hinbox
  have hiff : refusedBy s.params.role w p ↔ ¬ spells s.params.role w p := by
    rw [refusedBy_iff, spells_iff, not_and_or, Bool.not_eq_true]
  exact ⟨hiff, fun hrefused => step_refused_of_not_spells hinbox (hiff.mp hrefused)⟩

end Sys2Proof.Machine

/-! ### Proofs about the wire packet (30_encoding.md, R60): its bytes by offset, that every valid packet is
serialized, and the padding. -/

namespace Sys2Proof.Machine

open Sys2Proof

/-! #### The bytes of a field (R7, R40) -/

/-- Byte `i` of a word, least significant first. -/
theorem ofNat_toNat_div_pow {w : Nat} (v : BitVec w) (i : Nat) :
    BitVec.ofNat 8 (v.toNat / 256 ^ i) = v.extractLsb' (8 * i) 8 := by
  apply BitVec.eq_of_toNat_eq
  rw [BitVec.toNat_ofNat, BitVec.extractLsb'_toNat, Nat.shiftRight_eq_div_pow, Nat.pow_mul]

/-- What `MemRead` reads is below the range of its width. -/
theorem memRead_lt (buf : List Byte) (off n : Nat) : memRead buf off n < 256 ^ n := by
  induction n generalizing off with
  | zero => simp [memRead]
  | succ n ih =>
    have hlow : (buf.getD off 0).toNat < 256 := (buf.getD off 0).isLt
    have hhigh := ih (off + 1)
    rw [memRead, Nat.pow_succ']
    omega

/-- The bytes of what `MemRead` reads are those of the buffer: the converse of `memRead_of_bytes`. -/
theorem getElem?_eq_byte_of_memRead {buf : List Byte} {off n i : Nat} (hbuf : off + n ≤ buf.length)
    (hi : i < n) : buf[off + i]? = some (BitVec.ofNat 8 (memRead buf off n / 256 ^ i)) := by
  induction n generalizing off i with
  | zero => omega
  | succ n ih =>
    have hlow : (buf.getD off 0).toNat < 256 := (buf.getD off 0).isLt
    cases i with
    | zero =>
      have hbyte : buf[off]? = some (buf.getD off 0) := by
        simp [List.getElem?_eq_getElem (show off < buf.length by omega)]
      rw [Nat.add_zero, hbyte, memRead, Nat.pow_zero, Nat.div_one]
      congr 1
      apply BitVec.eq_of_toNat_eq
      rw [BitVec.toNat_ofNat]
      omega
    | succ i =>
      have hrest : memRead buf off (n + 1) / 256 = memRead buf (off + 1) n := by
        rw [memRead]
        omega
      rw [show off + (i + 1) = off + 1 + i by omega, ih (by omega) (by omega), Nat.pow_succ',
        ← Nat.div_div_eq_div_mul, hrest]

/-- The bytes that `memWriteEach` wrote, in order. -/
theorem memWriteEach_getElem?_add {buf : List Byte} {off i : Nat} {bs : List Byte}
    (hbuf : off + bs.length ≤ buf.length) (hi : i < bs.length) :
    (memWriteEach buf off bs)[off + i]? = some bs[i] := by
  induction bs generalizing buf off i with
  | nil => exact absurd hi (Nat.not_lt_zero i)
  | cons b bs ih =>
    rw [List.length_cons] at hbuf hi
    rw [memWriteEach]
    cases i with
    | zero =>
      rw [memWriteEach_getElem?_of_lt (by omega), memWrite_getElem?_of_lt (by omega) Nat.one_pos]
      simp
    | succ i =>
      rw [show off + (i + 1) = off + 1 + i by omega, ih (by rw [memWrite_length]; omega) (by omega)]
      rfl

/-! #### The fields of a serialized packet (R60, R100 to R104) -/

section
variable (pid : Word32) (f : CanFrame)

/-- packetId, little-endian, at offset 0 (R101). -/
theorem serialize_packetId {i : Nat} (hi : i < 4) :
    (serialize pid f)[i]? = some (BitVec.ofNat 8 (pid.toNat / 256 ^ i)) := by
  have hfield := memWrite_getElem?_of_lt (buf := List.replicate pktSize 0) (off := 0) (n := 4)
    (v := pid.toNat) (by simp [pktSize]) hi
  rw [serialize, memWriteEach_getElem?_of_lt (by omega), memWrite_getElem?_of_outside (.inl (by omega)),
    memWrite_getElem?_of_outside (.inl (by omega)), ← hfield, Nat.zero_add]

/-- canId, little-endian, at offset 4 (R102). -/
theorem serialize_canId {i : Nat} (hi : i < 2) :
    (serialize pid f)[4 + i]? = some (BitVec.ofNat 8 ((canIdOf f.id).toNat / 256 ^ i)) := by
  rw [serialize, memWriteEach_getElem?_of_lt (by omega), memWrite_getElem?_of_outside (.inl (by omega)),
    memWrite_getElem?_of_lt (by simp [pktSize]) hi]

/-- len at offset 6 (R103). -/
theorem serialize_len : (serialize pid f)[6]? = some (lenOf f.length) := by
  have hfield := memWrite_getElem?_of_lt (i := 0) (v := (lenOf f.length).toNat)
    (buf := memWrite (memWrite (List.replicate pktSize 0) 0 4 pid.toNat) 4 2 (canIdOf f.id).toNat)
    (off := 6) (n := 1) (by simp [pktSize]) Nat.one_pos
  rw [serialize, memWriteEach_getElem?_of_lt (by omega), ← Nat.add_zero 6, hfield]
  simp

/-- The data bytes from offset 7 on, the padding as it came (R104). -/
theorem serialize_data (i : Fin 8) : (serialize pid f)[7 + i.val]? = some f.data[i] := by
  rw [serialize, memWriteEach_getElem?_add (by simp [pktSize]) (by simp)]
  simp

/-- R103: a length above 8 counts as 8. -/
theorem lenOf_toNat (length : BitVec 4) : (lenOf length).toNat = min length.toNat 8 := by
  rw [lenOf, BitVec.toNat_ofNat, maxLen]
  omega

/-- The bytes of canId are those of the identifier (R102). -/
theorem canIdOf_extractLsb' (id : BitVec 29) {i : Nat} (hi : i < 2) :
    (canIdOf id).extractLsb' (8 * i) 8 = id.extractLsb' (8 * i) 8 :=
  BitVec.extractLsb'_extractLsb'_of_le (by omega)

end

/-- Settles O11: each field's bytes at its offsets, a byte of a word being eight of its bits. -/
theorem packetLayout : Obligations.PacketLayout := by
  intro pid f
  have hpid : ∀ i, i < 4 → (serialize pid f)[i]? = some (pid.extractLsb' (8 * i) 8) := fun i hi => by
    rw [serialize_packetId pid f hi, ofNat_toNat_div_pow]
  have hcan : ∀ i, i < 2 → (serialize pid f)[4 + i]? = some (f.id.extractLsb' (8 * i) 8) :=
    fun i hi => by
      rw [serialize_canId pid f hi, ofNat_toNat_div_pow, canIdOf_extractLsb' f.id hi]
  exact ⟨serialize_length pid f, hpid 0 (by decide), hpid 1 (by decide), hpid 2 (by decide),
    hpid 3 (by decide), hcan 0 (by decide), hcan 1 (by decide),
    ⟨_, serialize_len pid f, lenOf_toNat f.length⟩, serialize_data pid f⟩

/-! #### The frame of a valid packet (R63, R105) -/

/-- The frame that a packet's bytes carry: the fields as `deserialize` reads them, identifier bits 28:16
zero. -/
def frameOf (b : List Byte) : CanFrame where
  id := BitVec.ofNat 29 (memRead b 4 2)
  length := BitVec.ofNat 4 (memRead b 6 1)
  data := .ofFn fun i => b.getD (7 + i.val) 0

/-- `frameOf` has the identifier's low 16 bits that `deserialize` reads. -/
theorem canIdOf_frameOf (b : List Byte) : (canIdOf (frameOf b).id).toNat = memRead b 4 2 := by
  have hlt := memRead_lt b 4 2
  simp only [canIdOf, frameOf, BitVec.extractLsb'_toNat, BitVec.toNat_ofNat, Nat.shiftRight_zero]
  omega

theorem lenOf_frameOf {b : List Byte} (h : memRead b 6 1 ≤ 8) :
    (lenOf (frameOf b).length).toNat = memRead b 6 1 := by
  rw [lenOf_toNat, frameOf, BitVec.toNat_ofNat]
  omega

/-- The field of the packet an offset stands in (R60). -/
theorem packet_offset_cases (a : Nat) :
    a < 4 ∨ (∃ i < 2, a = 4 + i) ∨ a = 6 ∨ (∃ i : Fin 8, a = 7 + i.val) ∨ 15 ≤ a := by
  by_cases hcanId : 4 ≤ a ∧ a < 6
  · exact .inr (.inl ⟨a - 4, by omega, by omega⟩)
  by_cases hdata : 7 ≤ a ∧ a < 15
  · exact .inr (.inr (.inr (.inl ⟨⟨a - 7, by omega⟩, by simp only; omega⟩)))
  omega

/-- A packet with a valid len byte is that of its own packetId and frame. -/
theorem serialize_frameOf {b : List Byte} (hlength : b.length = 15) (hlen : memRead b 6 1 ≤ 8) :
    serialize (deserialize b).packetId (frameOf b) = b := by
  have hpid : (deserialize b).packetId.toNat = memRead b 0 4 := by
    rw [deserialize, BitVec.toNat_ofNat]
    exact Nat.mod_eq_of_lt (memRead_lt b 0 4)
  refine List.ext_getElem? fun a => ?_
  obtain ha | ⟨i, hi, rfl⟩ | rfl | ⟨i, rfl⟩ | ha := packet_offset_cases a
  · -- packetId
    rw [serialize_packetId _ _ ha, hpid, ← getElem?_eq_byte_of_memRead (by omega) ha, Nat.zero_add]
  · -- canId
    rw [serialize_canId _ _ hi, canIdOf_frameOf, ← getElem?_eq_byte_of_memRead (by omega) hi]
  · -- len
    have hbyte : b[6 + 0]? = some (BitVec.ofNat 8 (memRead b 6 1 / 256 ^ 0)) :=
      getElem?_eq_byte_of_memRead (by omega) Nat.one_pos
    rw [serialize_len, hbyte, ← lenOf_frameOf hlen]
    simp
  · -- data
    rw [serialize_data]
    simp [frameOf, List.getElem?_eq_getElem (show 7 + i.val < b.length by omega)]
  · -- past the end of both
    rw [List.getElem?_eq_none (by rw [serialize_length]; omega), List.getElem?_eq_none (by omega)]

/-- Settles O16: the packetId and the frame are those the deframer reads from the bytes. -/
theorem everyValidPacketIsSerialized : Obligations.EveryValidPacketIsSerialized :=
  fun _ hlength hlen => ⟨_, _, serialize_frameOf hlength hlen⟩

/-! #### The padding (R64, R134) -/

/-- `MemRead` depends on the bytes up to the end of its field alone. -/
theorem memRead_append {pre pad : List Byte} {off n : Nat} (h : off + n ≤ pre.length) :
    memRead (pre ++ pad) off n = memRead pre off n := by
  induction n generalizing off with
  | zero => rfl
  | succ n ih => rw [memRead, memRead, ih (by omega), List.getD_append _ _ _ _ (by omega)]

theorem memRead_one {b : List Byte} {off : Nat} {v : Byte} (h : b[off]? = some v) :
    memRead b off 1 = v.toNat := by
  simp [memRead, h]

/-- The record of a packet depends on the bytes up to the end of its payload alone. -/
theorem recordOf_deserialize_append {pre pad : List Byte} {len : Byte} (rssi snr : LQ)
    (hle : len.toNat ≤ 8) (hlen : pre[6]? = some len) (hpre : pre.length = 7 + len.toNat) :
    recordOf (deserialize (pre ++ pad)) rssi snr = recordOf (deserialize pre) rssi snr := by
  have hfield : (deserialize pre).len = len := by
    simp [deserialize, memRead_one hlen]
  have hdata : (deserialize (pre ++ pad)).data.take len.toNat
      = (deserialize pre).data.take len.toNat := by
    simp only [deserialize, ← List.map_take, List.take_range, Nat.min_eq_left hle]
    refine List.map_congr_left fun i hi => ?_
    rw [List.mem_range] at hi
    rw [memRead_append (by omega)]
  have hpid : (deserialize (pre ++ pad)).packetId = (deserialize pre).packetId :=
    congrArg (BitVec.ofNat 32) (memRead_append (by omega))
  have hcan : (deserialize (pre ++ pad)).canId = (deserialize pre).canId :=
    congrArg (BitVec.ofNat 16) (memRead_append (by omega))
  have hlen' : (deserialize (pre ++ pad)).len = (deserialize pre).len :=
    congrArg (BitVec.ofNat 8) (memRead_append (by omega))
  rw [recordOf, recordOf, hpid, hcan, hlen', hfield, hdata]

/-- A transfer of 15 bytes with a valid len byte is forwarded, whatever follows its payload. -/
theorem judge_append_pad {pre pad : List Byte} {len : Byte} (rssi snr : LQ) (hle : len.toNat ≤ 8)
    (hlen : pre[6]? = some len) (hpre : pre.length = 7 + len.toNat) (hpad : pad.length = 8 - len.toNat) :
    judge ⟨.data, pre ++ pad, rssi, snr⟩ = .forward (recordOf (deserialize pre) rssi snr) := by
  have hlength : (pre ++ pad).length = pktSize := by
    rw [List.length_append, pktSize]
    omega
  have hbyte : memRead (pre ++ pad) 6 1 ≤ maxLen := by
    rw [memRead_append (by omega), memRead_one hlen]
    exact hle
  calc judge ⟨.data, pre ++ pad, rssi, snr⟩
    _ = judgeData (pre ++ pad) rssi snr := rfl
    _ = .forward (recordOf (deserialize (pre ++ pad)) rssi snr) := by
      rw [judgeData, if_pos hlength, if_pos hbyte]
    _ = .forward (recordOf (deserialize pre) rssi snr) := by
      rw [recordOf_deserialize_append rssi snr hle hlen hpre]

/-- Settles O38: the verdict is that of the bytes before the padding. -/
theorem paddingIsNotInterpreted : Obligations.PaddingIsNotInterpreted := by
  intro pre pad pad' len rssi snr hle hlen hpre hpad hpad'
  have hjudge := judge_append_pad rssi snr hle hlen hpre hpad
  exact ⟨hjudge.trans (judge_append_pad rssi snr hle hlen hpre hpad').symm, _, hjudge⟩

end Sys2Proof.Machine

/-! ### Proofs about the framer (40_framer.md): what the deframer reads from a serialized packet, alone and
end to end. -/

namespace Sys2Proof.Machine

open Sys2Proof

/-! #### The fields read back from a serialized packet (R101 to R104, R106) -/

/-- R102: the low 16 bits, taken by a mask. -/
theorem canIdOf_toNat (id : BitVec 29) : (canIdOf id).toNat = id.toNat &&& 0xFFFF := by
  rw [canIdOf, BitVec.extractLsb'_toNat, Nat.shiftRight_zero]
  exact (Nat.and_two_pow_sub_one_eq_mod id.toNat 16).symm

section
variable (pid : Word32) (f : CanFrame)

theorem memRead_serialize_canId : memRead (serialize pid f) 4 2 = (canIdOf f.id).toNat :=
  (memRead_of_bytes fun _ => serialize_canId pid f).trans (Nat.mod_eq_of_lt (canIdOf f.id).isLt)

theorem memRead_serialize_len : memRead (serialize pid f) 6 1 = (lenOf f.length).toNat :=
  memRead_one (serialize_len pid f)

/-- All eight data bytes come back, the padding among them (R104). -/
theorem deserialize_serialize_data : (deserialize (serialize pid f)).data = f.data.toList := by
  refine List.ext_getElem (by simp [deserialize]) fun i hi _ => ?_
  have hi : i < 8 := by simpa [deserialize] using hi
  have hbyte : memRead (serialize pid f) (7 + i) 1 = f.data[i].toNat :=
    memRead_one (serialize_data pid f ⟨i, hi⟩)
  simp [deserialize, hbyte]

/-- The deframer undoes the framer, up to what the framer cuts (R106): the identifier above bit 15 and a
length above 8. -/
theorem deserialize_serialize : deserialize (serialize pid f)
    = ⟨pid, canIdOf f.id, lenOf f.length, f.data.toList⟩ := by
  have hpid : (deserialize (serialize pid f)).packetId = pid := packetIdOf_serialize pid f
  have hcanId : (deserialize (serialize pid f)).canId = canIdOf f.id := by
    simp [deserialize, memRead_serialize_canId]
  have hlen : (deserialize (serialize pid f)).len = lenOf f.length := by
    simp [deserialize, memRead_serialize_len]
  rw [deserialize, Packet.mk.injEq]
  exact ⟨hpid, hcanId, hlen, deserialize_serialize_data pid f⟩

/-- The record of a serialized packet. Cutting the eight data bytes at `min length 8` is cutting them at
`length`. -/
theorem recordOf_serialize (rssi snr : LQ) : recordOf (deserialize (serialize pid f)) rssi snr
    = ⟨pid, canIdOf f.id, lenOf f.length, f.data.toList.take f.length.toNat, rssi, snr⟩ := by
  have hpayload : f.data.toList.take (min f.length.toNat 8) = f.data.toList.take f.length.toNat :=
    List.take_eq_take_iff.2 (by simp)
  rw [deserialize_serialize, recordOf, lenOf_toNat, hpayload]

/-- A serialized packet is valid: 15 bytes, a len byte of at most 8 (R105). -/
theorem judge_serialize (rssi snr : LQ) : judge ⟨.data, serialize pid f, rssi, snr⟩
    = .forward (recordOf (deserialize (serialize pid f)) rssi snr) := by
  have hlength : (serialize pid f).length = pktSize := serialize_length pid f
  have hlen : memRead (serialize pid f) 6 1 ≤ maxLen := by
    rw [memRead_serialize_len, lenOf_toNat]
    exact Nat.min_le_right _ _
  calc judge ⟨.data, serialize pid f, rssi, snr⟩
    _ = judgeData (serialize pid f) rssi snr := rfl
    _ = .forward (recordOf (deserialize (serialize pid f)) rssi snr) := by
      rw [judgeData, if_pos hlength, if_pos hlen]

end

/-- Settles O12: the field reads as the identifier masked to 16 bits. -/
theorem canIdFieldIsLowSixteenBits : Obligations.CanIdFieldIsLowSixteenBits := by
  have hmask : ∀ pid f, memRead (serialize pid f) 4 2 = f.id.toNat &&& 0xFFFF := fun pid f =>
    (memRead_serialize_canId pid f).trans (canIdOf_toNat f.id)
  refine ⟨fun pid f => ⟨hmask pid f, fun hstandard => ?_⟩, ?_⟩
  · rw [hmask, Nat.and_two_pow_sub_one_of_lt_two_pow (n := 16) (by omega)]
  · rintro pid f (hid | hid) <;> rw [hmask, hid] <;> rfl

/-- Settles O13: the four fields of `deserialize_serialize`, with a length that the framer keeps. -/
theorem packetRoundTrip : Obligations.PacketRoundTrip := by
  intro pid f hlength
  rw [deserialize_serialize]
  exact ⟨rfl, canIdOf_toNat f.id, (lenOf_toNat f.length).trans (Nat.min_eq_left hlength), rfl⟩

/-! #### A transfer received and serviced (R121, R126) -/

section
variable {s : State}

theorem exec_rxDoneData_of_armed {bytes : List Byte} (rssi snr : LQ) (role : s.params.role = .rx)
    (hfits : bytes.length ≤ s.params.rxMaxBytes) (started : s.rxStarted = true)
    (armed : s.rxState = .armed) :
    exec (.rxDoneData bytes rssi snr) s = .next ((s.latch ⟨.data, bytes, rssi, snr⟩).note
      (.rxDoneData bytes rssi snr) .latched []) := by
  simp [exec, execRxDoneData, atUnit_of_role role, fits_iff.2 hfits, latchReport, started, armed,
    State.conclude]

/-- A service that finds a valid packet in the latch records it. -/
theorem exec_rxService_of_forward {r : Record} (role : s.params.role = .rx)
    (pending : s.rxState = .pending) (h : judge s.rxLatch = .forward r) :
    ∃ t, exec .rxService s = .next t ∧ recorded t.trace = recorded s.trace ++ [r] := by
  obtain ⟨t, hexec⟩ := execRxService_completes role pending
  obtain ⟨-, -, rfl⟩ := execRxService_next hexec
  exact ⟨_, hexec, by simp [h, verdictActions]⟩

/-- An ARMED unit that is notified of a valid packet records it at its next service. -/
theorem exec_rxDoneData_rxService_of_armed {bytes : List Byte} {rssi snr : LQ} {r : Record}
    (role : s.params.role = .rx) (hfits : bytes.length ≤ s.params.rxMaxBytes)
    (started : s.rxStarted = true) (armed : s.rxState = .armed)
    (h : judge ⟨.data, bytes, rssi, snr⟩ = .forward r) :
    ∃ t u, exec (.rxDoneData bytes rssi snr) s = .next t ∧ exec .rxService t = .next u ∧
      recorded u.trace = recorded s.trace ++ [r] := by
  have hlatch := exec_rxDoneData_of_armed rssi snr role hfits started armed
  obtain ⟨u, hservice, hrecorded⟩ := exec_rxService_of_forward
    (s := (s.latch ⟨.data, bytes, rssi, snr⟩).note (.rxDoneData bytes rssi snr) .latched []) role rfl h
  exact ⟨_, u, hlatch, hservice, by simpa using hrecorded⟩

end

/-- Settles O57: the packet that the admission transmits is the one that the service judges. -/
theorem intactFrameIsRecorded : Obligations.IntactFrameIsRecorded := by
  intro f rssi snr car ground txRole txStarted free rxRole rxStarted armed hmax
  have hadmit := exec_canFrame_of_free f txRole txStarted free
  have hfits : (serialize car.seq f).length ≤ ground.params.rxMaxBytes := by
    rw [serialize_length]
    exact hmax
  have hjudge := judge_serialize car.seq f rssi snr
  rw [recordOf_serialize] at hjudge
  obtain ⟨ground', ground'', hnotice, hservice, hrecorded⟩ :=
    exec_rxDoneData_rxService_of_armed rxRole hfits rxStarted armed hjudge
  exact ⟨_, serialize car.seq f, _, ground', ground'', _, hadmit, by simp, rfl, hnotice, hservice,
    hrecorded, rfl, rfl, rfl, rfl, rfl, rfl⟩

end Sys2Proof.Machine

/-! ### Proofs about admission (41_admission.md): what one CAN_FRAME or TX_DONE does, bursts and runs of a
TX unit, the transport's contract, and the packet of a failed transmit. -/

namespace Sys2Proof.Machine

open Sys2Proof

/-! #### One CAN_FRAME, one TX_DONE (R110 to R116) -/

/-- A byte sequence written to `tx_buf` leaves the offsets after it. -/
theorem Memory.read_writeBytes_of_le {m : Memory} {a c : Nat} {bs : List Byte}
    (h : a + bs.length ≤ c) : (m.writeBytes a bs).read c = m.read c := by
  induction bs generalizing m a with
  | nil => rfl
  | cons b bs ih =>
    rw [List.length_cons] at h
    rw [writeBytes, ih (by omega), read_write_ne m b (by omega)]

section
variable {s : State}

theorem exec_canFrame_of_stopped (f : CanFrame) (role : s.params.role = .tx)
    (stopped : s.txStarted = false) :
    exec (.canFrame f) s = .next (s.note (.canFrame f) .ignored []) := by
  simp [exec, execCanFrame, atUnit_of_role role, stopped, State.ignore, State.conclude]

theorem exec_txDone_of_stopped (status : TxStatus) (role : s.params.role = .tx)
    (stopped : s.txStarted = false) :
    exec (.txDone status) s = .next (s.note (.txDone status) .ignored []) := by
  simp [exec, execTxDone, atUnit_of_role role, stopped, State.ignore, State.conclude]

end

/-- Settles O17: the packet is written from offset 0 on, and has 15 bytes. -/
theorem canFrameAdmitted : Obligations.CanFrameAdmitted := by
  intro f s role started free
  refine ⟨_, exec_canFrame_of_free f role started free, rfl, rfl, rfl, fun a ha => ?_, fun a ha => ?_,
    rfl⟩
  · have hlt : a < (serialize s.seq f).length := by simpa using ha
    have hread := Memory.read_writeBytes_add (m := s.txBuf) (a := 0) hlt
    rw [Nat.zero_add, ← List.getElem?_eq_getElem hlt] at hread
    exact hread
  · exact Memory.read_writeBytes_of_le (by simpa using ha)

/-- Settles O18: the two tests that come before an admission. -/
theorem canFrameDroppedOrIgnored : Obligations.CanFrameDroppedOrIgnored := fun f _ role =>
  ⟨exec_canFrame_of_busy f role, exec_canFrame_of_stopped f role⟩

/-- Settles O19: the status is recorded and not looked at. -/
theorem txDoneFreesChannel : Obligations.TxDoneFreesChannel := fun status _ role =>
  ⟨exec_txDone_of_started status role, exec_txDone_of_stopped status role⟩

/-! #### A transmit in flight (R117, R203, R204) -/

section
variable {i : Instr} {s t : State}

/-- An RX unit transmits nothing. -/
theorem RxMove.transmitted (move : RxMove s i t) :
    transmitted t.trace = transmitted s.trace := by
  cases move <;> simp

/-- A TX unit whose channel is busy transmits nothing, and only RESET writes `tx_buf`. -/
theorem TxMove.of_busy (move : TxMove s i t) (busy : s.channelFree = false) :
    transmitted t.trace = transmitted s.trace ∧ (i ≠ .reset → t.txBuf = s.txBuf) := by
  cases move with
  | reset => exact ⟨by simp, fun h => absurd rfl h⟩
  | admission f started free => exact absurd (free.symm.trans busy) nofun
  | _ => exact ⟨by simp, fun _ => rfl⟩

end

/-- Settles O21: a busy channel excludes an admission, the one move that transmits. -/
theorem noTransmitWhileInFlight : Obligations.NoTransmitWhileInFlight := by
  intro i s t busy h
  have hfreed := (channelFreeWriters.1 i s t h).2 busy
  obtain ⟨-, move⟩ | ⟨-, move⟩ := exec_move h
  · obtain ⟨hsent, hbuf⟩ := move.of_busy busy
    exact ⟨hsent, hfreed, hbuf⟩
  · obtain ⟨-, -, -, -, hbuf⟩ := move.frame
    exact ⟨move.transmitted, hfreed, fun _ => hbuf⟩

/-! #### A burst of frames (R117) -/

/-- A trace after a burst of frames that were all dropped. -/
def afterDrops : List CanFrame → List StepRecord → List StepRecord
  | [], trace => trace
  | f :: fs, trace => afterDrops fs (⟨.canFrame f, .dropped, []⟩ :: trace)

@[simp] theorem transmitted_afterDrops (fs : List CanFrame) (trace : List StepRecord) :
    transmitted (afterDrops fs trace) = transmitted trace := by
  induction fs generalizing trace with
  | nil => rfl
  | cons f fs ih => simp [afterDrops, ih]

@[simp] theorem tags_afterDrops (fs : List CanFrame) (trace : List StepRecord) :
    (afterDrops fs trace).map (·.tag)
      = List.replicate fs.length .dropped ++ trace.map (·.tag) := by
  induction fs generalizing trace with
  | nil => rfl
  | cons f fs ih => simp [afterDrops, ih, List.replicate_succ']

section
variable {s t : State} {rest : List Event}

theorem run_succ_of_step {k : Nat} (h : step s = .next t) : run (k + 1) s = run k t := by
  rw [run, h]

/-- A step with a frame at the head of the inbox runs CAN_FRAME. -/
theorem step_of_inbox_frame {f : CanFrame} {fs : List CanFrame}
    (hinbox : s.inbox = frameEvents (f :: fs) ++ rest) :
    step s = exec (.canFrame f) (s.consume (frameEvents fs ++ rest)) :=
  stepRunsDecodedEvent s _ _ _ hinbox (decode_encode_canFrame f)

/-- A busy unit drops every frame of a burst, and that is all it does. -/
theorem run_frames_of_busy {fs : List CanFrame} (role : s.params.role = .tx)
    (started : s.txStarted = true) (busy : s.channelFree = false)
    (hinbox : s.inbox = frameEvents fs ++ rest) :
    run fs.length s = .next { s with inbox := rest, trace := afterDrops fs s.trace } := by
  induction fs generalizing s with
  | nil =>
    obtain rfl : s.inbox = rest := hinbox
    rfl
  | cons f fs ih =>
    have hstep := (step_of_inbox_frame hinbox).trans (exec_canFrame_of_busy f role started busy)
    exact (run_succ_of_step hstep).trans (ih role started busy rfl)

end

/-- Settles O20: a free unit admits the first frame and is then busy; a busy one drops all. -/
theorem burstAdmitsOnlyFirst : Obligations.BurstAdmitsOnlyFirst := by
  intro f fs rest s role started hinbox
  cases hfree : s.channelFree with
  | false =>
    have hrun := run_frames_of_busy role started hfree hinbox
    exact ⟨_, hrun, rfl, hfree, nofun, fun _ => ⟨by simp, rfl, rfl, by simp⟩⟩
  | true =>
    have hstep := (step_of_inbox_frame hinbox).trans (exec_canFrame_of_free f role started hfree)
    have hrun := (run_succ_of_step hstep).trans (run_frames_of_busy role started rfl rfl)
    exact ⟨_, hrun, rfl, rfl, fun _ => ⟨by simp, rfl, by simp⟩, nofun⟩

/-! #### Runs of a unit (R118) -/

/-- What every step keeps, every run keeps. -/
theorem run_keeps {P : State → Prop} (keeps : ∀ {s t : State}, P s → step s = .next t → P t)
    {k : Nat} {s t : State} (hrun : run k s = .next t) (h : P s) : P t := by
  induction k generalizing s with
  | zero =>
    obtain rfl : s = t := by simpa [run] using hrun
    exact h
  | succ k ih =>
    rw [run] at hrun
    split at hrun
    · exact ih hrun (keeps h ‹_›)
    · cases hrun
    · cases hrun

/-- In every run from power-on a unit keeps its invariant and its parameters. -/
theorem run_powerOn_inv {p : Params} {events : List Event} {k : Nat} {t : State}
    (hrun : run k { State.powerOn p with inbox := events } = .next t) : Inv t ∧ t.params = p :=
  run_keeps (P := fun s => Inv s ∧ s.params = p)
    (fun ⟨hinv, hparams⟩ hstep => ⟨stepKeepsUnitInvariant _ _ hinv hstep,
      (configurationAndOtherUnitUntouched _ _ hstep).1.trans hparams⟩)
    hrun ⟨(unitInvariantAtPowerOn p).1.consume events, rfl⟩

/-- Settles O24: consecutive packetIds are part of the invariant of a TX unit. -/
theorem packetIdsConsecutiveOverRuns : Obligations.PacketIdsConsecutiveOverRuns := by
  intro p events k t role hrun
  obtain ⟨hinv, rfl⟩ := run_powerOn_inv hrun
  exact (hinv.tx role).ids

/-! #### Notifications the contract allows (R116, R122, R171, R172) -/

theorem IsRxDone.permits {i : Instr} (h : IsRxDone i) (t : Transport) :
    t.permits i = t.listening := by
  obtain h | ⟨bytes, rssi, snr, rfl⟩ := h
  · simp only [List.mem_cons, List.not_mem_nil, or_false] at h
    obtain rfl | rfl | rfl | rfl := h <;> rfl
  · rfl

theorem IsRxDone.unitOf {i : Instr} (h : IsRxDone i) : unitOf i = some .rx := by
  obtain h | ⟨bytes, rssi, snr, rfl⟩ := h
  · simp only [List.mem_cons, List.not_mem_nil, or_false] at h
    obtain rfl | rfl | rfl | rfl := h <;> rfl
  · rfl

section
variable {i : Instr} {s t : State}

/-- An operation of one unit completes only there (R77). -/
theorem role_of_exec {r : Role} (hunit : unitOf i = some r) (h : exec i s = .next t) :
    s.params.role = r := by
  by_contra role
  cases (exec_refused_otherUnit hunit role).symm.trans h

/-- Before START no transmit is outstanding (R32, R113). -/
theorem TxInv.sending_of_stopped (h : TxInv s) (stopped : s.txStarted = false) :
    (transportOf s.trace).sending = none := by
  simpa using h.channel.symm.trans (h.freeBeforeStart stopped)

/-- A TX_DONE of an outstanding transmit completes. -/
theorem TxMove.completed {status : TxStatus} (move : TxMove s (.txDone status) t) (h : TxInv s)
    (sending : (transportOf s.trace).sending.isSome = true) :
    t.trace.head?.map (·.tag) = some .completed := by
  cases move with
  | complete => rfl
  | ignoreDone _ stopped => simp [h.sending_of_stopped stopped] at sending

/-- An RX_DONE of an outstanding receive is latched. -/
theorem RxMove.latched (move : RxMove s i t) (h : RxInv s) (report : IsRxDone i)
    (listening : (transportOf s.trace).listening = true) :
    t.trace.head?.map (·.tag) = some .latched := by
  cases move with
  | latch => rfl
  | ignoreReport _ unarmed => exact absurd (listening.symm.trans (h.not_listening unarmed)) nofun
  | reset | start | ignoreStart | service | read => simp [IsRxDone] at report

end

/-- Settles O55: the channel is busy, or the unit ARMED, exactly while the transport has the operation
outstanding. -/
theorem allowedNotificationsAreTaken : Obligations.AllowedNotificationsAreTaken := by
  intro i s t hinv hpermits h
  constructor
  · rintro ⟨status, rfl⟩
    have role : s.params.role = .tx := role_of_exec rfl h
    exact (exec_txMove role h).completed (hinv.tx role) hpermits
  · intro (report : IsRxDone i)
    have role : s.params.role = .rx := role_of_exec report.unitOf h
    exact (exec_rxMove role h).latched (hinv.rx role) report
      ((report.permits _).symm.trans hpermits)

/-! #### The packet of a failed transmit (R116, R174) -/

/-- What the ground latched, then what has arrived there and is not yet reported. -/
def received (sys : System) : List (List Byte) :=
  (latchedTransfers sys.ground.trace).map (·.bytes) ++ arrivedBytes sys.arrived

/-- What has reached the ground, then what is on the air, is in order among the packets that survive. As
long as the last packet is neither delivered nor completed its transmit may still fail, and then the rest
must do without it. -/
structure SurvivorsInOrder (sys : System) : Prop where
  inOrder : InOrder sys
  order : (received sys ++ sys.flight).Sublist (surviving sys.car.trace)
  mayFail : (transportOf sys.car.trace).sending.isSome = true → sys.delivered = false →
    (received sys ++ sys.flight.dropLast).Sublist (surviving sys.car.trace).dropLast

theorem survivorsInOrder_powerOn (seqInit : Word32) (rxMaxBytes : Nat) :
    SurvivorsInOrder (System.powerOn seqInit rxMaxBytes) where
  inOrder := inOrder_powerOn _ _
  order := List.nil_sublist _
  mayFail := nofun

/-- What an operation of the car's unit does to the packets on the air and to those that survive: it adds
one to both, it takes the last from both, or it leaves both. -/
inductive FlightMove (flight : List (List Byte)) (delivered : Bool) (i : Instr) (s t : State) :
    Prop where
  | sent (bytes : List Byte) (hflight : flightAfter flight t.trace = flight ++ [bytes])
      (hsurviving : surviving t.trace = surviving s.trace ++ [bytes])
  | failed (event : i = .txDone .fail) (hflight : flightAfter flight t.trace = flight.dropLast)
      (hsurviving : surviving t.trace = (surviving s.trace).dropLast)
      (idle : (transportOf t.trace).sending = none)
  | kept (hflight : flightAfter flight t.trace = flight)
      (hsurviving : surviving t.trace = surviving s.trace)
      (outstanding : (transportOf t.trace).sending = none ∨
        ((transportOf t.trace).sending = (transportOf s.trace).sending ∧
          deliveredAfter delivered t.trace = delivered))

section
variable {i : Instr} {s t : State} {flight : List (List Byte)} {delivered : Bool}

/-- A notification ends the transmit that is outstanding; a failure takes its packet away. -/
theorem FlightMove.of_txDone {status : TxStatus} {tag : Tag}
    (htrace : t.trace = ⟨.txDone status, tag, []⟩ :: s.trace)
    (sending : (transportOf s.trace).sending.isSome = true) :
    FlightMove flight delivered (.txDone status) s t := by
  have idle : (transportOf t.trace).sending = none := by rw [htrace]; rfl
  cases status with
  | ok =>
    exact .kept (by rw [htrace]; rfl) (by simp [htrace, surviving_cons]) (.inl idle)
  | fail =>
    exact .failed rfl (by rw [htrace]; rfl)
      (by rw [htrace, surviving_cons_failed _ _ rfl sending]; simp) idle

theorem TxMove.flightMove (move : TxMove s i t)
    (permitted : (transportOf s.trace).permits i = true) : FlightMove flight delivered i s t := by
  cases move with
  | admission f => exact .sent (serialize s.seq f) rfl (surviving_cons _ _ (.inl nofun))
  | complete x | ignoreDone x => exact .of_txDone rfl permitted
  | reset => exact .kept rfl (by simp [surviving_cons]) (.inl rfl)
  | start | ignoreStart | drop f | ignoreFrame f | read r =>
    exact .kept rfl (by simp [surviving_cons]) (.inr ⟨rfl, rfl⟩)

end

section
variable {sys next : System} {i : Instr}

/-- A failure is reported only of a packet that has not reached the ground (R116). -/
theorem undelivered_of_carMay_fail (h : carMay sys (.txDone .fail) = true) : sys.delivered = false := by
  simpa [carMay] using (Bool.and_eq_true_iff.1 h).2

theorem SurvivorsInOrder.carStep (h : SurvivorsInOrder sys) (hstep : sys.carStep i = some next) :
    SurvivorsInOrder next := by
  have hnext : InOrder next := h.inOrder.carStep hstep
  obtain ⟨hmay, c, hexec, rfl⟩ := System.carStep_some hstep
  have permitted : (transportOf sys.car.trace).permits i = true := (Bool.and_eq_true_iff.1 hmay).1
  have move : FlightMove sys.flight sys.delivered i sys.car c :=
    (exec_txMove h.inOrder.carRole hexec).flightMove permitted
  cases move with
  | sent bytes hflight hsurviving =>
    refine ⟨hnext, ?_, fun _ _ => ?_⟩
    · simpa [received, hflight, hsurviving] using h.order.append_right [bytes]
    · simpa [received, hflight, hsurviving] using h.order
  | failed event hflight hsurviving idle =>
    subst event
    refine ⟨hnext, ?_, fun sending _ => ?_⟩
    · simpa only [received, hflight, hsurviving] using
        h.mayFail permitted (undelivered_of_carMay_fail hmay)
    · simp [idle] at sending
  | kept hflight hsurviving outstanding =>
    refine ⟨hnext, ?_, fun sending undelivered => ?_⟩
    · simpa only [received, hflight, hsurviving] using h.order
    · obtain idle | ⟨hsending, hdelivered⟩ := outstanding
      · simp [idle] at sending
      · simpa only [received, hflight, hsurviving] using
          h.mayFail (hsending ▸ sending) (hdelivered.symm.trans undelivered)

/-- The ground's unit latches what has arrived, and may lose it (R172). -/
theorem received_groundStep_sublist (hstep : sys.groundStep i = some next) :
    (received next).Sublist (received sys) := by
  obtain ⟨hmay, g, hexec, rfl⟩ := System.groundStep_some hstep
  cases exec_reception hexec with
  | unchanged transfers | forwarded _ _ _ transfers =>
    simpa only [received, transfers] using
      (arrivedBytes_after_sublist sys.arrived i).append_left _
  | latched bytes rssi snr event latch transfers =>
    subst event
    have harrived : sys.arrived = some (.rxDoneData bytes rssi snr) := by simpa [groundMay] using hmay
    simp [received, transfers, latch, arrivedAfter, arrivedBytes, harrived]

theorem SurvivorsInOrder.groundStep (h : SurvivorsInOrder sys)
    (hstep : sys.groundStep i = some next) : SurvivorsInOrder next := by
  have hnext : InOrder next := h.inOrder.groundStep hstep
  have hreceived : (received next).Sublist (received sys) := received_groundStep_sublist hstep
  obtain ⟨-, g, -, rfl⟩ := System.groundStep_some hstep
  exact ⟨hnext, (hreceived.append_right _).trans h.order,
    fun sending undelivered => (hreceived.append_right _).trans (h.mayFail sending undelivered)⟩

/-- What reaches the ground's transport without its bytes adds no transfer. -/
theorem arrivedBytes_or_sublist_of_not_isData {arrival : Option Instr} (h : isData arrival = false)
    (arrived : Option Instr) :
    (arrivedBytes (arrival.or arrived)).Sublist (arrivedBytes arrived) := by
  cases arrival with
  | none => exact List.Sublist.refl _
  | some i =>
    cases i with
    | rxDoneData => cases h
    | _ => exact List.nil_sublist _

/-- The fate of the oldest packet on the air gives the ground that packet, or nothing more (R174). -/
theorem received_linkStep_sublist {fate : LinkFate} (hfate : unaltered (.link fate) = true)
    (hstep : sys.linkStep fate = some next) :
    ∃ bytes, sys.flight = bytes :: next.flight ∧
      (received next).Sublist (received sys ++ [bytes]) := by
  obtain ⟨bytes, later, hflight, rfl⟩ := System.linkStep_some hstep
  refine ⟨bytes, hflight, ?_⟩
  rw [received, received, List.append_assoc]
  exact (arrivedBytes_receives_sublist hfate sys bytes).append_left _

/-- The last packet on the air, unless its bytes reach the ground, adds nothing there. -/
theorem received_linkStep_sublist_of_undelivered {fate : LinkFate}
    (hstep : sys.linkStep fate = some next) (hlast : next.flight = [])
    (undelivered : next.delivered = false) : (received next).Sublist (received sys) := by
  obtain ⟨bytes, later, -, rfl⟩ := System.linkStep_some hstep
  obtain rfl : later = [] := hlast
  obtain ⟨-, hnotData⟩ := Bool.or_eq_false_iff.1 undelivered
  exact (arrivedBytes_or_sublist_of_not_isData (by simpa using hnotData) sys.arrived).append_left _

/-- The link leaves the car's unit as it is, and what was delivered stays so. -/
theorem linkStep_car {fate : LinkFate} (hstep : sys.linkStep fate = some next) :
    next.car = sys.car ∧ (next.delivered = false → sys.delivered = false) := by
  obtain ⟨bytes, later, -, rfl⟩ := System.linkStep_some hstep
  exact ⟨rfl, fun h => (Bool.or_eq_false_iff.1 h).1⟩

theorem SurvivorsInOrder.linkStep (h : SurvivorsInOrder sys) {fate : LinkFate}
    (hfate : unaltered (.link fate) = true) (hstep : sys.linkStep fate = some next) :
    SurvivorsInOrder next := by
  obtain ⟨bytes, hflight, hreceived⟩ := received_linkStep_sublist hfate hstep
  obtain ⟨hcar, hdelivered⟩ := linkStep_car hstep
  have horder := h.order
  have hmayFail := h.mayFail
  rw [← hcar, hflight] at horder hmayFail
  refine ⟨h.inOrder.linkStep hfate hstep, ?_, fun sending undelivered => ?_⟩
  · exact (hreceived.append_right _).trans (by simpa using horder)
  · have hrest := hmayFail sending (hdelivered undelivered)
    cases hlater : next.flight with
    | nil =>
      -- the last packet: it may still fail, so it has not reached the ground
      rw [hlater] at hrest
      exact ((received_linkStep_sublist_of_undelivered hstep hlater undelivered).append_right
        _).trans hrest
    | cons last others =>
      rw [hlater] at hrest
      exact (hreceived.append_right _).trans (by simpa using hrest)

theorem SurvivorsInOrder.step (h : SurvivorsInOrder sys) {e : SystemEvent} (he : unaltered e = true)
    (hstep : sys.step e = some next) : SurvivorsInOrder next := by
  cases e with
  | atCar i => exact h.carStep hstep
  | atGround i => exact h.groundStep hstep
  | link fate => exact h.linkStep he hstep

end

/-- Records come of latched transfers, and those of packets that survive. -/
theorem SurvivorsInOrder.records_sublist {sys : System} (h : SurvivorsInOrder sys) :
    ((recorded sys.ground.trace).map stripLq).Sublist
      ((surviving sys.car.trace).map recordOfPacket) := by
  have latched : ((latchedTransfers sys.ground.trace).map (·.bytes)).Sublist
      (surviving sys.car.trace) := by
    refine List.Sublist.trans ?_ h.order
    rw [received, List.append_assoc]
    exact List.sublist_append_left _ _
  exact ((h.inOrder.forwards.all.map stripLq).trans (forwardable_records_sublist _)).trans
    (latched.map recordOfPacket)

/-- Settles O60: a packet whose transmit fails has not reached the ground, and is taken off the air. -/
theorem failedTransmitIsNotRecorded : Obligations.FailedTransmitIsNotRecorded := by
  intro seqInit rxMaxBytes events sys hlink hrun
  have horder : SurvivorsInOrder sys := System.run_keeps (P := SurvivorsInOrder)
    (fun he h hstep => h.step he hstep) hlink hrun (survivorsInOrder_powerOn _ _)
  exact horder.records_sublist

end Sys2Proof.Machine

/-! ### Proofs about the deframer (42_deframer.md): the reports latched or ignored, what a service answers for
each verdict on the latch, the receive cycle, and that a latched transfer is served. -/

namespace Sys2Proof.Machine

open Sys2Proof

/-! #### The reports of the transport (R121 to R123) -/

section
variable {s latched : State} {i : Instr}

theorem latchReport_of_armed (started : s.rxStarted = true) (armed : s.rxState = .armed) :
    latchReport i s latched = .next (latched.note i .latched []) := by
  simp [latchReport, started, armed, State.conclude]

theorem latchReport_of_unarmed (unarmed : s.rxStarted = false ∨ s.rxState ≠ .armed) :
    latchReport i s latched = .next (s.note i .ignored []) := by
  obtain stopped | hstate := unarmed
  · simp [latchReport, stopped, State.ignore, State.conclude]
  · simp [latchReport, hstate, State.ignore, State.conclude]

/-- The four notifications without payload share one meaning, each with its outcome (R72, R121). -/
theorem exec_eq_latchOutcome {outcome : RxOutcome}
    (h : (i, outcome) ∈ [(Instr.rxDoneTimeout, RxOutcome.timeout),
      (.rxDoneIntegrityFail, .integrityFail), (.rxDoneHeaderFail, .headerFail),
      (.rxDoneTransportError, .transportError)]) (s : State) :
    exec i s = latchOutcome i outcome s := by
  simp only [List.mem_cons, Prod.mk.injEq, List.not_mem_nil, or_false] at h
  obtain ⟨rfl, rfl⟩ | ⟨rfl, rfl⟩ | ⟨rfl, rfl⟩ | ⟨rfl, rfl⟩ := h <;> rfl

/-- At an RX unit each of the five reports comes to the one test of R122, whatever it would latch. -/
theorem exec_eq_latchReport
    (report : i ∈ [Instr.rxDoneTimeout, .rxDoneIntegrityFail, .rxDoneHeaderFail,
        .rxDoneTransportError] ∨
      ∃ bytes rssi snr, i = .rxDoneData bytes rssi snr ∧ bytes.length ≤ s.params.rxMaxBytes)
    (role : s.params.role = .rx) : ∃ latched, exec i s = latchReport i s latched := by
  obtain hbare | ⟨bytes, rssi, snr, rfl, hfits⟩ := report
  · simp only [List.mem_cons, List.not_mem_nil, or_false] at hbare
    obtain rfl | rfl | rfl | rfl := hbare <;> exact ⟨_, atUnit_of_role role⟩
  · exact ⟨_, (atUnit_of_role role).trans (if_pos (fits_iff.2 hfits))⟩

end

/-- Settles O26: an armed unit latches the report as it is. -/
theorem rxDoneDataLatched : Obligations.RxDoneDataLatched :=
  fun _ rssi snr _ role hfits started armed =>
    exec_rxDoneData_of_armed rssi snr role hfits started armed

/-- Settles O27: the latch is `freeLatch`, which keeps the bound of R28. -/
theorem rxDoneOutcomeLatched : Obligations.RxDoneOutcomeLatched := by
  intro i outcome s hreport role started armed
  have hexec : exec i s = .next ((s.latch (freeLatch s outcome)).draw.note i .latched []) := by
    rw [exec_eq_latchOutcome hreport, latchOutcome, atUnit_of_role role,
      latchReport_of_armed started armed]
  exact ⟨freeLatch s outcome, rfl, freeLatch_bytes_length s outcome, hexec⟩

/-- Settles O28: all five reports come to one test, and it fails. -/
theorem rxDoneIgnoredUnlessArmed : Obligations.RxDoneIgnoredUnlessArmed := by
  intro i s report role unarmed
  obtain ⟨latched, hexec⟩ := exec_eq_latchReport report role
  exact hexec.trans (latchReport_of_unarmed unarmed)

/-! #### The verdict on the latch (R126 to R132, R136) -/

section
variable {l l' : RxLatch}

theorem judge_of_timeout (h : l.outcome = .timeout) : judge l = .quiet := by
  rw [judge, h]

/-- The cause of a discard names the failure that the transport reported (R163). -/
theorem judge_of_failure {outcome : RxOutcome} {cause : Cause}
    (hcause : (outcome, cause) ∈ [(RxOutcome.integrityFail, Cause.integrity), (.headerFail, .header),
      (.transportError, .transport)])
    (h : l.outcome = outcome) : judge l = .discard cause := by
  simp only [List.mem_cons, Prod.mk.injEq, List.not_mem_nil, or_false] at hcause
  obtain ⟨rfl, rfl⟩ | ⟨rfl, rfl⟩ | ⟨rfl, rfl⟩ := hcause <;> rw [judge, h]

theorem judge_of_data (h : l.outcome = .data) : judge l = judgeData l.bytes l.rssi l.snr := by
  rw [judge, h]

theorem judge_of_length_ne (h : l.outcome = .data) (hlength : l.bytes.length ≠ pktSize) :
    judge l = .discard .length := by
  rw [judge_of_data h, judgeData, if_neg hlength]

theorem judge_of_len_gt {len : Byte} (h : l.outcome = .data) (hlength : l.bytes.length = pktSize)
    (hbyte : l.bytes[6]? = some len) (hlen : 8 < len.toNat) : judge l = .discard .lenField := by
  have hfield : ¬ memRead l.bytes 6 1 ≤ maxLen := by
    rw [memRead_one hbyte]
    exact Nat.not_le.2 hlen
  rw [judge_of_data h, judgeData, if_pos hlength, if_neg hfield]

theorem judge_of_valid {len : Byte} (h : l.outcome = .data) (hlength : l.bytes.length = pktSize)
    (hbyte : l.bytes[6]? = some len) (hlen : len.toNat ≤ 8) :
    judge l = .forward (recordOf (deserialize l.bytes) l.rssi l.snr) := by
  have hfield : memRead l.bytes 6 1 ≤ maxLen := by
    rw [memRead_one hbyte]
    exact hlen
  rw [judge_of_data h, judgeData, if_pos hlength, if_pos hfield]

/-- The verdict reads the bytes and the link quality of a transfer of 15 bytes alone (R122, R131). -/
theorem judge_congr (houtcome : l.outcome = l'.outcome)
    (hlength : l.outcome = .data → l.bytes.length ≠ 15 ∧ l'.bytes.length ≠ 15) :
    judge l = judge l' := by
  by_cases h : l.outcome = .data
  · obtain ⟨hlong, hlong'⟩ := hlength h
    rw [judge_of_length_ne h hlong, judge_of_length_ne (houtcome ▸ h) hlong']
  · rw [judge, judge, ← houtcome]
    cases ho : l.outcome with
    | data => exact absurd ho h
    | timeout | integrityFail | headerFail | transportError => rfl

end

/-! #### The service of the latch (R126, R134, R135) -/

/-- What a service answers, by the verdict on the latch. -/
theorem exec_rxService_of_judge {s : State} {v : Verdict} (role : s.params.role = .rx)
    (pending : s.rxState = .pending) (h : judge s.rxLatch = v) :
    exec .rxService s = .next ((s.countVerdict v).rearm.note .rxService (verdictTag v)
      (verdictActions v ++ [.beginReceive])) := by
  rw [exec, execRxService, atUnit_of_role role, if_pos pending, service, h, State.conclude]

/-- Counting a verdict neither reads nor writes the latch. -/
theorem countVerdict_with_rxLatch (s : State) (l : RxLatch) (v : Verdict) :
    State.countVerdict { s with rxLatch := l } v = { s.countVerdict v with rxLatch := l } := by
  cases v <;> rfl

/-- A verdict's own actions are records, at most one (R126). -/
theorem verdictActions_eq_map_record (v : Verdict) :
    ∃ records : List Record, records.length ≤ 1 ∧ verdictActions v = records.map .record := by
  cases v with
  | quiet | discard => exact ⟨[], by decide, rfl⟩
  | forward r => exact ⟨[r], Nat.le_refl 1, rfl⟩

/-- R133: the data bytes are those from offset 7 on. -/
theorem deserialize_data_of_bytes {b data : List Byte} (h : data.length = 8)
    (hbytes : ∀ (i : Nat) (hi : i < data.length), b[7 + i]? = some data[i]) :
    (deserialize b).data = data := by
  refine List.ext_getElem (by simp [deserialize, h]) fun i _ hi => ?_
  have hbyte : memRead b (7 + i) 1 = data[i].toNat := memRead_one (hbytes i hi)
  simp [deserialize, hbyte]

/-- R133: the four fields of 15 bytes, little-endian. -/
theorem deserialize_of_fields (b0 b1 b2 b3 b4 b5 len : Byte) {data : List Byte}
    (h : data.length = 8) : deserialize ([b0, b1, b2, b3, b4, b5, len] ++ data) =
      ⟨BitVec.ofNat 32 (b0.toNat + 2 ^ 8 * b1.toNat + 2 ^ 16 * b2.toNat + 2 ^ 24 * b3.toNat),
        BitVec.ofNat 16 (b4.toNat + 2 ^ 8 * b5.toNat), len, data⟩ := by
  have hpid : memRead ([b0, b1, b2, b3, b4, b5, len] ++ data) 0 4
      = b0.toNat + 2 ^ 8 * b1.toNat + 2 ^ 16 * b2.toNat + 2 ^ 24 * b3.toNat := by
    simp only [memRead, List.cons_append, List.getD_cons_zero, List.getD_cons_succ]
    omega
  have hcanId : memRead ([b0, b1, b2, b3, b4, b5, len] ++ data) 4 2
      = b4.toNat + 2 ^ 8 * b5.toNat := by
    simp only [memRead, List.cons_append, List.getD_cons_zero, List.getD_cons_succ]
    omega
  have hlen : memRead ([b0, b1, b2, b3, b4, b5, len] ++ data) 6 1 = len.toNat := memRead_one rfl
  have hdata : (deserialize ([b0, b1, b2, b3, b4, b5, len] ++ data)).data = data :=
    deserialize_data_of_bytes h fun i hi => by
      rw [List.getElem?_append_right (by simp)]
      simp [hi]
  rw [deserialize, Packet.mk.injEq, hpid, hcanId, hlen]
  exact ⟨rfl, rfl, by simp, hdata⟩

/-- Settles O29: the verdict on a timeout is quiet. -/
theorem rxServiceTimeout : Obligations.RxServiceTimeout := fun _ role pending htimeout =>
  exec_rxService_of_judge role pending (judge_of_timeout htimeout)

/-- Settles O30: the verdict on each failure is a discard. -/
theorem rxServiceDiscardsFailures : Obligations.RxServiceDiscardsFailures :=
  fun _ _ _ hcause role pending houtcome =>
    exec_rxService_of_judge role pending (judge_of_failure hcause houtcome)

/-- Settles O31: the two tests of a transfer that the transport passed. -/
theorem rxServiceDiscardsMalformed : Obligations.RxServiceDiscardsMalformed :=
  fun _ role pending hdata =>
    ⟨fun hlength => exec_rxService_of_judge role pending (judge_of_length_ne hdata hlength),
      fun _ hlength hbyte hlen =>
        exec_rxService_of_judge role pending (judge_of_len_gt hdata hlength hbyte hlen)⟩

/-- Settles O32: the verdict forwards the record of the fields that `deserialize` reads. -/
theorem rxServiceForwards : Obligations.RxServiceForwards := by
  intro b0 b1 b2 b3 b4 b5 len data rssi snr s role pending hdata hlen hlatch
  have hlength : ([b0, b1, b2, b3, b4, b5, len] ++ data).length = 15 := by simp [hdata]
  have hjudge : judge s.rxLatch
      = .forward (recordOf (deserialize ([b0, b1, b2, b3, b4, b5, len] ++ data)) rssi snr) := by
    rw [hlatch]
    exact judge_of_valid rfl hlength rfl hlen
  rw [deserialize_of_fields b0 b1 b2 b3 b4 b5 len hdata] at hjudge
  exact exec_rxService_of_judge role pending hjudge

/-- Settles O33: the re-arm comes after every verdict. -/
theorem rxServiceAlwaysRearms : Obligations.RxServiceAlwaysRearms := by
  intro s t h
  obtain ⟨-, -, rfl⟩ := execRxService_next h
  obtain ⟨records, hone, hactions⟩ := verdictActions_eq_map_record (judge s.rxLatch)
  exact ⟨rfl, verdictTag (judge s.rxLatch), records, hone, by simp [hactions]⟩

/-- Settles O34: PENDING is the one test that follows the test of the role. -/
theorem rxServiceOnlyWhilePending : Obligations.RxServiceOnlyWhilePending := fun _ role =>
  ⟨execRxService_completes role, exec_rxService_refused role⟩

/-- Settles O37: the two latches are judged alike, and a service reads the latch for its verdict only. -/
theorem unreadLatchDoesNotMatter : Obligations.UnreadLatchDoesNotMatter := by
  intro s l l' role pending houtcome hlength
  have hservice (k : RxLatch) (hk : judge k = judge l) :
      exec .rxService { s with rxLatch := k } = .next
        { (s.countVerdict (judge l)).rearm.note .rxService (verdictTag (judge l))
            (verdictActions (judge l) ++ [.beginReceive]) with rxLatch := k } := by
    rw [exec_rxService_of_judge (s := { s with rxLatch := k }) role pending hk,
      countVerdict_with_rxLatch]
    rfl
  exact ⟨_, hservice l rfl, hservice l' (judge_congr houtcome hlength).symm⟩

/-! #### The frame reconstructed from a record (R137) -/

/-- Widening canId restores no bit above bit 15 of the identifier (R102, R137). -/
theorem canIdOf_setWidth_toNat (id : BitVec 29) :
    ((canIdOf id).setWidth 29).toNat = id.toNat % 2 ^ 16 := by
  rw [BitVec.toNat_setWidth, canIdOf, BitVec.extractLsb'_toNat, Nat.shiftRight_zero]
  omega

/-- Settles O14: the fields of `recordOf_serialize`, with a length that the framer keeps. -/
theorem reconstructedFrame : Obligations.ReconstructedFrame := by
  intro pid f rssi snr hlength
  rw [recordOf_serialize]
  exact ⟨canIdOf_setWidth_toNat f.id, (lenOf_toNat f.length).trans (Nat.min_eq_left hlength), rfl⟩

/-! #### The receive cycle (R27, R120) -/

/-- Settles O35: the moves of an RX unit that write `rx_state`; a TX unit does not write it. -/
theorem receiveCycle : Obligations.ReceiveCycle := by
  intro i s t hidle h hchanged
  obtain ⟨-, move⟩ | ⟨-, move⟩ := exec_move h
  · obtain ⟨-, -, hstate, -⟩ := move.frame
    exact absurd hstate hchanged
  · cases move with
    | start stopped => exact .inl ⟨hidle.2 stopped, rfl, rfl⟩
    | latch l draws report started armed => exact .inr (.inl ⟨armed, rfl, report⟩)
    | service pending => exact .inr (.inr (.inl ⟨pending, rfl, rfl⟩))
    | reset => exact .inr (.inr (.inr ⟨rfl, rfl⟩))
    | ignoreStart | ignoreReport | read => exact absurd rfl hchanged

/-! #### A latched transfer is served (R126, R212) -/

section
variable {s t : State}

theorem step_of_inbox_nil (h : s.inbox = []) : step s = takeOwn s := by
  rw [step, h]

theorem takeOwn_of_pending (role : s.params.role = .rx) (pending : s.rxState = .pending) :
    takeOwn s = exec .rxService s := by
  rw [takeOwn, role, pending]

theorem takeOwn_of_not_pending (h : ¬ (s.params.role = .rx ∧ s.rxState = .pending)) :
    takeOwn s = .next s := by
  unfold takeOwn
  split
  · exact absurd ⟨‹_›, ‹_›⟩ h
  · rfl

end

/-- Settles O7: an empty inbox leaves the step to the unit itself, which serves its latch or idles. -/
theorem stepWithoutEvents : Obligations.StepWithoutEvents := fun _ hinbox =>
  ⟨fun ⟨role, pending⟩ => (step_of_inbox_nil hinbox).trans (takeOwn_of_pending role pending),
    fun h => (step_of_inbox_nil hinbox).trans (takeOwn_of_not_pending h)⟩

/-- An operation takes no event off the inbox and presents none (R8). -/
theorem exec_inbox {i : Instr} {s t : State} (h : exec i s = .next t) : t.inbox = s.inbox := by
  obtain ⟨-, move⟩ | ⟨-, move⟩ := exec_move h
  · cases move <;> rfl
  · cases move with
    | service => simp
    | _ => rfl

/-- Each presented event is an operation that the unit accepts (R77). -/
def AcceptsAll (p : Params) (events : List Event) : Prop :=
  ∀ e ∈ events, ∃ i, decode e.word e.payload = .ok i ∧ wellFormed p i = true

section
variable {s : State}

/-- A PENDING unit takes an accepted event, and that changes neither what it accepts nor the rest of the
inbox. -/
theorem step_of_pending_cons {e : Event} {rest : List Event} (pending : s.rxState = .pending)
    (hinbox : s.inbox = e :: rest) (haccepts : AcceptsAll s.params (e :: rest)) :
    ∃ t, step s = .next t ∧ t.params = s.params ∧ t.inbox = rest := by
  obtain ⟨i, hdecode, hwf⟩ := haccepts e List.mem_cons_self
  obtain ⟨t, hexec⟩ := exec_completes (s := s.consume rest) hwf fun _ => pending
  exact ⟨t, (stepRunsDecodedEvent s e rest i hinbox hdecode).trans hexec,
    exec_params (s := s.consume rest) hexec, exec_inbox hexec⟩

/-- With nothing presented, a PENDING unit serves its latch and is ARMED. -/
theorem step_of_pending_nil (role : s.params.role = .rx) (pending : s.rxState = .pending)
    (hinbox : s.inbox = []) : ∃ t, step s = .next t ∧ t.rxState = .armed := by
  obtain ⟨t, hexec⟩ := execRxService_completes role pending
  obtain ⟨armed, -⟩ := rxServiceAlwaysRearms s t hexec
  exact ⟨t, ((stepWithoutEvents s hinbox).1 ⟨role, pending⟩).trans hexec, armed⟩

/-- Induction on the events presented: each takes the unit out of PENDING or leaves one event less. -/
theorem run_leaves_pending {events : List Event} (role : s.params.role = .rx)
    (pending : s.rxState = .pending) (hinbox : s.inbox = events)
    (haccepts : AcceptsAll s.params events) :
    ∃ k t, k ≤ events.length + 1 ∧ run k s = .next t ∧ t.rxState ≠ .pending := by
  induction events generalizing s with
  | nil =>
    obtain ⟨t, hstep, armed⟩ := step_of_pending_nil role pending hinbox
    exact ⟨1, t, Nat.le_refl 1, run_succ_of_step hstep, by simp [armed]⟩
  | cons e rest ih =>
    obtain ⟨t, hstep, hparams, hrest⟩ := step_of_pending_cons pending hinbox haccepts
    by_cases still : t.rxState = .pending
    · have haccepts' : AcceptsAll t.params rest := by
        rw [hparams]
        exact fun e' he' => haccepts e' (List.mem_cons_of_mem e he')
      obtain ⟨k, u, hk, hrun, hleft⟩ := ih (by rw [hparams, role]) still hrest haccepts'
      exact ⟨k + 1, u, Nat.succ_le_succ hk, (run_succ_of_step hstep).trans hrun, hleft⟩
    · exact ⟨1, t, Nat.le_add_left 1 _, run_succ_of_step hstep, still⟩

end

/-- Settles O40: `run_leaves_pending` at the whole inbox. -/
theorem pendingIsServed : Obligations.PendingIsServed := fun _ role pending haccepts =>
  run_leaves_pending role pending rfl haccepts

end Sys2Proof.Machine

/-! ### Proofs about the control operations (43_control.md): START once, the register view of REG_READ, and
RESET. -/

namespace Sys2Proof.Machine

open Sys2Proof

/-! #### START (R140, R141) -/

section
variable {s : State}

theorem exec_start_of_tx_stopped (role : s.params.role = .tx) (stopped : s.txStarted = false) :
    exec .start s = .next (s.startTx.note .start .started []) := by
  simp [exec, execStart, role, startTxUnit, stopped, State.conclude]

theorem exec_start_of_rx_stopped (role : s.params.role = .rx) (stopped : s.rxStarted = false) :
    exec .start s = .next (s.startRx.note .start .started [.beginReceive]) := by
  simp [exec, execStart, role, startRxUnit, stopped, State.conclude]

theorem exec_start_of_tx_started (role : s.params.role = .tx) (started : s.txStarted = true) :
    exec .start s = .next (s.note .start .ignored []) := by
  simp [exec, execStart, role, startTxUnit, started, State.ignore, State.conclude]

theorem exec_start_of_rx_started (role : s.params.role = .rx) (started : s.rxStarted = true) :
    exec .start s = .next (s.note .start .ignored []) := by
  simp [exec, execStart, role, startRxUnit, started, State.ignore, State.conclude]

end

/-- Settles O41: each unit tests its own `started` before it writes. -/
theorem startStartsOnce : Obligations.StartStartsOnce := by
  intro s
  refine ⟨exec_start_of_tx_stopped, exec_start_of_rx_stopped, ?_⟩
  rintro (⟨role, started⟩ | ⟨role, started⟩)
  · exact exec_start_of_tx_started role started
  · exact exec_start_of_rx_started role started

/-! #### REG_READ (R142, R143): one equation for each register (R33 to R36) -/

section
variable (s : State)

@[simp] theorem regValue_zero : regValue s 0 = statusReg s := rfl

@[simp] theorem regValue_one : regValue s 1 = seqNextReg s := rfl

@[simp] theorem regValue_two : regValue s 2 = rxBadCountReg s := rfl

/-- A reserved register reads as 0 (R36). -/
theorem regValue_of_reserved {r : BitVec 4} (h : 3 ≤ r.toNat) : regValue s r = 0 := by
  unfold regValue
  split
  case h_4 => rfl
  all_goals omega

theorem exec_regRead (r : BitVec 4) :
    exec (.regRead r) s = .next (s.note (.regRead r) .read [.regData (regValue s r)]) := rfl

end

/-- Settles O42: the value emitted is `regValue`. -/
theorem regReadEmitsRegister : Obligations.RegReadEmitsRegister := by
  intro r s
  refine ⟨regValue s r, exec_regRead s r, ?_, ?_, ?_, regValue_of_reserved s⟩
  · rintro rfl
    exact regValue_zero s
  · rintro rfl
    exact regValue_one s
  · rintro rfl
    exact regValue_two s

/-! #### RESET (R144, R145) -/

/-- The free contents of `tx_buf` are a byte at each of the offsets 0 to 14 and at no other (R44). -/
theorem freeTxBuf_read_isSome (draw a : Nat) :
    (Memory.read (freeTxBuf draw) a).isSome = decide (a < 15) := by
  rw [freeTxBuf_read]
  split
  case isTrue h => simp [h]
  case isFalse h => simp [h]

section
variable {s : State}

theorem exec_reset_of_tx (role : s.params.role = .tx) :
    exec .reset s = .next (s.resetTx.note .reset .reset []) := by
  simp [exec, execReset, role, State.conclude]

theorem exec_reset_of_rx (role : s.params.role = .rx) :
    exec .reset s = .next (s.resetRx.note .reset .reset []) := by
  simp [exec, execReset, role, State.conclude]

end

/-- Settles O44: RESET writes the free buffer, which fills offsets 0 to 14, or the free latch, which
keeps the bound of R28. -/
theorem resetRestoresUnit : Obligations.ResetRestoresUnit := by
  refine ⟨fun _ => rfl, fun s => ⟨fun role => ?_, fun role => ?_⟩⟩
  · exact ⟨freeTxBuf s.draws, freeTxBuf_wf s.draws, freeTxBuf_read_isSome s.draws,
      exec_reset_of_tx role⟩
  · exact ⟨freeLatch s _, freeLatch_bytes_length s _, exec_reset_of_rx role⟩

end Sys2Proof.Machine

/-! ### Proofs about the outcomes and the environment (60_exceptions.md): the outcome tag of a step, the one
operation outstanding at a transport, the contracts kept in a system, and the sink's line. -/

namespace Sys2Proof.Machine

open Sys2Proof

/-! #### The outcome tag of a step (R160) -/

theorem IsRxDone.tagAllowed {i : Instr} (h : IsRxDone i) :
    tagAllowed i .latched = true ∧ tagAllowed i .ignored = true := by
  obtain h | ⟨bytes, rssi, snr, rfl⟩ := h
  · simp only [List.mem_cons, List.not_mem_nil, or_false] at h
    obtain rfl | rfl | rfl | rfl := h <;> exact ⟨rfl, rfl⟩
  · exact ⟨rfl, rfl⟩

theorem tagAllowed_verdictTag (v : Verdict) : tagAllowed .rxService (verdictTag v) = true := by
  cases v <;> rfl

/-- From `s` to `t` the trace grows by one record, of the event, with a tag that R160's table gives
it. -/
def RecordsAllowedTag (i : Instr) (s t : State) : Prop :=
  ∃ tag actions, t.trace = ⟨i, tag, actions⟩ :: s.trace ∧ tagAllowed i tag = true

section
variable {i : Instr} {s t : State}

theorem TxMove.recordsAllowedTag (move : TxMove s i t) : RecordsAllowedTag i s t := by
  cases move <;> exact ⟨_, _, rfl, rfl⟩

theorem RxMove.recordsAllowedTag (move : RxMove s i t) : RecordsAllowedTag i s t := by
  cases move with
  | latch _ _ report => exact ⟨_, _, rfl, report.tagAllowed.left⟩
  | ignoreReport report => exact ⟨_, _, rfl, report.tagAllowed.right⟩
  | service =>
    exact ⟨_, verdictActions (judge s.rxLatch) ++ [.beginReceive], by simp,
      tagAllowed_verdictTag (judge s.rxLatch)⟩
  | reset | start | ignoreStart | read => exact ⟨_, _, rfl, rfl⟩

end

/-- Settles O47: every move of either unit records one tag of the event's column. -/
theorem stepRecordsOneOutcome : Obligations.StepRecordsOneOutcome := by
  intro i s t h
  obtain ⟨-, move⟩ | ⟨-, move⟩ := exec_move h
  · exact move.recordsAllowedTag
  · exact move.recordsAllowedTag

/-! #### One operation outstanding at a transport (R170, R176) -/

@[simp] theorem Transport.acceptsAll_nil (t : Transport) : t.acceptsAll [] = true := rfl

@[simp] theorem Transport.acceptsAll_singleton (t : Transport) (a : Action) :
    t.acceptsAll [a] = t.accepts a := Bool.and_true _

/-- A verdict's own actions begin nothing (R134). -/
@[simp] theorem Transport.acceptsAll_verdictActions_append (t : Transport) (v : Verdict)
    (actions : List Action) :
    t.acceptsAll (verdictActions v ++ actions) = t.acceptsAll actions := by
  cases v <;> rfl

section
variable {i : Instr} {s t : State}

/-- The transport of a TX unit whose channel is free has nothing outstanding (R32, R176). -/
theorem TxInv.isIdle (h : TxInv s) (free : s.channelFree = true) :
    (transportOf s.trace).isIdle = true := by
  rw [Transport.isIdle, ← h.channel, free, h.notListening]
  rfl

/-- The transport of an RX unit that is not ARMED has nothing outstanding (R27, R120). -/
theorem RxInv.isIdle (h : RxInv s) (unarmed : s.rxStarted = false ∨ s.rxState ≠ .armed) :
    (transportOf s.trace).isIdle = true := by
  rw [Transport.isIdle, h.notSending, h.not_listening unarmed]
  rfl

theorem TxMove.keeps_oneAtATime (move : TxMove s i t) (h : TxInv s)
    (older : oneAtATime s.trace = true) : oneAtATime t.trace = true := by
  cases move with
  | admission f _ free =>
    simpa [older, Transport.answered, Transport.accepts] using h.isIdle free
  | _ => simpa [Transport.accepts] using older

theorem RxMove.keeps_oneAtATime (move : RxMove s i t) (h : RxInv s)
    (older : oneAtATime s.trace = true) : oneAtATime t.trace = true := by
  cases move with
  | start stopped =>
    simpa [older, Transport.answered, Transport.accepts] using h.isIdle (.inl stopped)
  | service pending =>
    simpa [older, Transport.answered, Transport.accepts] using h.isIdle (.inr (by simp [pending]))
  | _ => simpa [Transport.accepts] using older

theorem exec_keeps_oneAtATime (hinv : Inv s) (older : oneAtATime s.trace = true)
    (h : exec i s = .next t) : oneAtATime t.trace = true := by
  obtain ⟨role, move⟩ | ⟨role, move⟩ := exec_move h
  · exact move.keeps_oneAtATime (hinv.tx role) older
  · exact move.keeps_oneAtATime (hinv.rx role) older

theorem step_keeps_oneAtATime (hinv : Inv s) (older : oneAtATime s.trace = true)
    (h : step s = .next t) : oneAtATime t.trace = true := by
  obtain ⟨e, rest, i, -, -, hexec⟩ | ⟨-, -, -, hexec⟩ | ⟨-, rfl⟩ := step_next h
  · exact exec_keeps_oneAtATime (hinv.consume rest) older hexec
  · exact exec_keeps_oneAtATime hinv older hexec
  · exact older

theorem run_powerOn_oneAtATime {p : Params} {events : List Event} {k : Nat}
    (hrun : run k { State.powerOn p with inbox := events } = .next t) :
    oneAtATime t.trace = true :=
  (run_keeps (P := fun s => Inv s ∧ oneAtATime s.trace = true)
    (fun ⟨hinv, older⟩ hstep =>
      ⟨stepKeepsUnitInvariant _ _ hinv hstep, step_keeps_oneAtATime hinv older hstep⟩)
    hrun ⟨(unitInvariantAtPowerOn p).1.consume events, rfl⟩).2

/-- A TX unit never listens and an RX unit never sends (R170). -/
theorem Inv.not_sending_and_listening (h : Inv s) :
    ((transportOf s.trace).sending.isSome && (transportOf s.trace).listening) = false := by
  cases role : s.params.role with
  | tx => rw [(h.tx role).notListening, Bool.and_false]
  | rx => rw [(h.rx role).notSending, Option.isSome_none, Bool.false_and]

/-- The one slot is full exactly while a transmit is outstanding (R23, R117). -/
theorem TxInv.slotOccupancy (h : TxInv s) :
    slotOccupancy s = (transportOf s.trace).sending.toList.length := by
  rw [Machine.slotOccupancy, h.channel]
  cases (transportOf s.trace).sending <;> rfl

end

/-- Settles O54: a begin is emitted only where the invariant says that the transport is idle. -/
theorem oneOperationOutstanding : Obligations.OneOperationOutstanding := by
  intro p events k t hrun
  obtain ⟨hinv, rfl⟩ := run_powerOn_inv hrun
  exact ⟨run_powerOn_oneAtATime hrun, hinv.not_sending_and_listening,
    fun role => (hinv.tx role).slotOccupancy⟩

/-! #### The contracts in a system of two units (R171, R172, R175) -/

/-- An action ends no receive: only the transport's report and RESET do (R172, R175). -/
theorem Transport.foldl_hear_listening {t : Transport} (actions : List Action)
    (h : t.listening = true) : (actions.foldl Transport.hear t).listening = true := by
  induction actions generalizing t with
  | nil => exact h
  | cons a rest ih =>
    refine ih ?_
    cases a with
    | beginReceive => rfl
    | beginTransmit | record | regData => exact h

/-- The events that leave an arrival unreported leave the receive outstanding (R172). -/
theorem answered_listening_of_arrivedAfter {arrived : Option Instr} {i : Instr}
    (h : (arrivedAfter arrived i).isSome = true) (t : Transport) :
    arrived.isSome = true ∧ (t.answered i).listening = t.listening := by
  cases i with
  | start | canFrame | txDone | rxService | regRead => exact ⟨h, rfl⟩
  | _ => cases h

/-- Both contracts were kept so far, and an arrival not yet reported is of a receive that is still
outstanding, so that its report will keep the ground's. -/
structure ContractsKept (sys : System) : Prop where
  car : contractKept sys.car.trace = true
  ground : contractKept sys.ground.trace = true
  groundRole : sys.ground.params.role = .rx
  awaited : sys.arrived.isSome = true → (transportOf sys.ground.trace).listening = true

theorem contractsKept_powerOn (seqInit : Word32) (rxMaxBytes : Nat) :
    ContractsKept (System.powerOn seqInit rxMaxBytes) where
  car := rfl
  ground := rfl
  groundRole := rfl
  awaited := nofun

theorem exec_contractKept {i : Instr} {s t : State} (older : contractKept s.trace = true)
    (permitted : (transportOf s.trace).permits i = true) (h : exec i s = .next t) :
    contractKept t.trace = true := by
  obtain ⟨tag, actions, htrace⟩ := exec_trace h
  rw [htrace, contractKept, older, permitted]
  rfl

section
variable {sys next : System} {i : Instr}

theorem listening_of_mayReport (h : mayReport sys i = true) :
    (transportOf sys.ground.trace).listening = true := (Bool.and_eq_true_iff.1 h).1

/-- What the ground's transport may present, its contract permits; a `TX_DONE`, which the system does not
hold back there, is of the other unit (R77). -/
theorem ContractsKept.ground_permits (h : ContractsKept sys) (hmay : groundMay sys i = true)
    (hunit : unitOf i ≠ some .tx) : (transportOf sys.ground.trace).permits i = true := by
  cases i with
  | txDone => exact absurd rfl hunit
  | rxDoneData bytes rssi snr =>
    have harrived : sys.arrived = some (.rxDoneData bytes rssi snr) := of_decide_eq_true hmay
    exact h.awaited (by rw [harrived]; rfl)
  | rxDoneTimeout | rxDoneIntegrityFail | rxDoneHeaderFail | rxDoneTransportError =>
    exact listening_of_mayReport hmay
  | reset | start | canFrame | rxService | regRead => rfl

theorem ContractsKept.carStep (h : ContractsKept sys) (hstep : sys.carStep i = some next) :
    ContractsKept next := by
  obtain ⟨hmay, c, hexec, rfl⟩ := System.carStep_some hstep
  exact { h with car := exec_contractKept h.car (Bool.and_eq_true_iff.1 hmay).1 hexec }

theorem ContractsKept.groundStep (h : ContractsKept sys) (hstep : sys.groundStep i = some next) :
    ContractsKept next := by
  obtain ⟨hmay, g, hexec, rfl⟩ := System.groundStep_some hstep
  have hunit : unitOf i ≠ some .tx := fun hunit =>
    absurd ((role_of_exec hunit hexec).symm.trans h.groundRole) nofun
  refine ⟨h.car, exec_contractKept h.ground (h.ground_permits hmay hunit) hexec,
    exec_params hexec ▸ h.groundRole, fun waiting => ?_⟩
  obtain ⟨hbefore, hlistening⟩ := answered_listening_of_arrivedAfter waiting
    (transportOf sys.ground.trace)
  obtain ⟨tag, actions, htrace⟩ := exec_trace hexec
  show (transportOf g.trace).listening = true
  rw [htrace]
  exact Transport.foldl_hear_listening actions (hlistening.trans (h.awaited hbefore))

/-- A packet arrives only at a transport that listens (R120, R206). -/
theorem listening_of_receives {bytes : List Byte} {fate : LinkFate}
    (h : (sys.receives bytes fate).isSome = true) :
    (transportOf sys.ground.trace).listening = true := by
  by_contra deaf
  simp [System.receives, arrival, deaf] at h

theorem ContractsKept.linkStep (h : ContractsKept sys) {fate : LinkFate}
    (hstep : sys.linkStep fate = some next) : ContractsKept next := by
  obtain ⟨bytes, later, -, rfl⟩ := System.linkStep_some hstep
  refine { h with awaited := fun waiting => ?_ }
  rw [Option.isSome_or, Bool.or_eq_true] at waiting
  obtain arriving | waiting := waiting
  · exact listening_of_receives (sys := sys) arriving
  · exact h.awaited waiting

theorem ContractsKept.step (h : ContractsKept sys) {e : SystemEvent}
    (hstep : sys.step e = some next) : ContractsKept next := by
  cases e with
  | atCar i => exact h.carStep hstep
  | atGround i => exact h.groundStep hstep
  | link fate => exact h.linkStep hstep

end

/-- Settles O56: every event of the system keeps both contracts and the awaited arrival. -/
theorem systemKeepsContracts : Obligations.SystemKeepsContracts := by
  intro seqInit rxMaxBytes events sys hrun
  have hkept : ContractsKept sys := System.run_keeps (P := ContractsKept) (allowed := fun _ => true)
    (fun _ h hstep => h.step hstep) (by simp) hrun (contractsKept_powerOn _ _)
  exact ⟨hkept.car, hkept.ground⟩

/-! #### The numerals of the sink's line (R178) -/

/-- Every digit that the sink writes is read back, in its case. -/
theorem digitValue_digitChar (upper : Bool) {d : Nat} (h : d < 16) :
    digitValue upper (digitChar upper d) = some d := by
  have sixteen : ∀ upper : Bool, ∀ d < 16, digitValue upper (digitChar upper d) = some d := by
    decide
  exact sixteen upper d h

/-- A decimal digit has no case. -/
theorem digitChar_of_lt_ten (upper upper' : Bool) {d : Nat} (h : d < 10) :
    digitChar upper d = digitChar upper' d := by
  rw [digitChar, digitChar, if_pos h, if_pos h]

theorem digitChar_ne_zero (upper : Bool) {d : Nat} (hpos : 0 < d) (h : d < 16) :
    digitChar upper d ≠ '0' := by
  intro hzero
  have hread := digitValue_digitChar upper h
  have hzeroRead : digitValue upper '0' = some 0 := rfl
  rw [hzero, hzeroRead, Option.some.injEq] at hread
  omega

theorem numeralFrom_append (base : Nat) (upper : Bool) (sofar : Nat) (cs ds : List Char) :
    numeralFrom base upper sofar (cs ++ ds)
      = (numeralFrom base upper sofar cs).bind fun n => numeralFrom base upper n ds := by
  induction cs generalizing sofar with
  | nil => rfl
  | cons c cs ih =>
    rw [List.cons_append, numeralFrom, numeralFrom]
    split
    · split
      · exact ih _
      · rfl
    · rfl

theorem numeralFrom_digitChar {base d : Nat} (upper : Bool) (sofar : Nat) (cs : List Char)
    (hbase : base ≤ 16) (h : d < base) :
    numeralFrom base upper sofar (digitChar upper d :: cs)
      = numeralFrom base upper (sofar * base + d) cs := by
  simp [numeralFrom, digitValue_digitChar upper (show d < 16 by omega), h]

section
variable {base fuel n : Nat}

theorem digitsOf_of_lt (h : n < base) : digitsOf base (fuel + 1) n = [n] := if_pos h

theorem digitsOf_of_le (h : base ≤ n) :
    digitsOf base (fuel + 1) n = digitsOf base fuel (n / base) ++ [n % base] :=
  if_neg (by omega)

theorem pos_of_lt_pow (h : n < base ^ (fuel + 1)) : 0 < base :=
  Nat.pos_of_ne_zero (by rintro rfl; simp at h)

theorem div_lt_of_lt_pow (h : n < base ^ (fuel + 1)) : n / base < base ^ fuel :=
  Nat.div_lt_of_lt_mul (by rwa [← Nat.pow_succ'])

theorem digitsOf_ne_nil : digitsOf base (fuel + 1) n ≠ [] := by
  unfold digitsOf
  split <;> simp

theorem digitsOf_lt (hbase : 0 < base) : ∀ d ∈ digitsOf base fuel n, d < base := by
  induction fuel generalizing n with
  | zero => exact nofun
  | succ fuel ih =>
    obtain h | h := Nat.lt_or_ge n base
    · simpa [digitsOf_of_lt h] using h
    · intro d hd
      rw [digitsOf_of_le h, List.mem_append, List.mem_singleton] at hd
      obtain hd | rfl := hd
      · exact ih d hd
      · exact Nat.mod_lt n hbase

/-- The leading digit of a number other than 0 is not 0. -/
theorem exists_digitsOf_eq_cons (hpos : 0 < n) (h : n < base ^ fuel) :
    ∃ d ds, digitsOf base fuel n = d :: ds ∧ 0 < d := by
  induction fuel generalizing n with
  | zero =>
    rw [Nat.pow_zero] at h
    omega
  | succ fuel ih =>
    obtain hlt | hle := Nat.lt_or_ge n base
    · exact ⟨n, [], digitsOf_of_lt hlt, hpos⟩
    · obtain ⟨d, ds, hquot, hd⟩ :=
        ih (Nat.div_pos hle (pos_of_lt_pow h)) (div_lt_of_lt_pow h)
      exact ⟨d, ds ++ [n % base], by rw [digitsOf_of_le hle, hquot, List.cons_append], hd⟩

/-- The digits of a number spell it. -/
theorem numeralFrom_digitsOf (upper : Bool) (hbase : base ≤ 16) (h : n < base ^ fuel) :
    numeralFrom base upper 0 ((digitsOf base fuel n).map (digitChar upper)) = some n := by
  induction fuel generalizing n with
  | zero =>
    obtain rfl : n = 0 := by simpa using h
    rfl
  | succ fuel ih =>
    obtain hlt | hle := Nat.lt_or_ge n base
    · rw [digitsOf_of_lt hlt, List.map_singleton, numeralFrom_digitChar upper 0 [] hbase hlt,
        Nat.zero_mul, Nat.zero_add]
      rfl
    · rw [digitsOf_of_le hle, List.map_append, numeralFrom_append, ih (div_lt_of_lt_pow h),
        Option.bind_some, List.map_singleton,
        numeralFrom_digitChar upper _ [] hbase (Nat.mod_lt n (pos_of_lt_pow h)), Nat.div_add_mod']
      rfl

theorem numeral_digitsOf (upper : Bool) (hbase : base ≤ 16) (h : n < base ^ (fuel + 1)) :
    numeral base upper ((digitsOf base (fuel + 1) n).map (digitChar upper)) = some n := by
  rw [numeral, if_neg (mt List.map_eq_nil_iff.1 digitsOf_ne_nil),
    numeralFrom_digitsOf upper hbase h]

theorem withoutLeadingZeros_digitsOf (upper : Bool) (hbase : base ≤ 16)
    (h : n < base ^ (fuel + 1)) :
    withoutLeadingZeros ((digitsOf base (fuel + 1) n).map (digitChar upper)) := by
  obtain rfl | hpos := Nat.eq_zero_or_pos n
  · left
    rw [digitsOf_of_lt (pos_of_lt_pow h)]
    rfl
  · right
    obtain ⟨d, ds, hdigits, hd⟩ := exists_digitsOf_eq_cons hpos h
    have hlt : d < base := digitsOf_lt (pos_of_lt_pow h) d (hdigits ▸ List.mem_cons_self)
    rw [hdigits, List.map_cons, List.head?_cons, ne_eq, Option.some.injEq]
    exact digitChar_ne_zero upper hd (by omega)

end

theorem decimal_eq_digits (upper : Bool) (n : Nat) :
    decimal n = (digitsOf 10 10 n).map (digitChar upper) :=
  List.map_congr_left fun _ hd =>
    digitChar_of_lt_ten true upper (digitsOf_lt (by decide) _ hd)

/-! #### The fields of the sink's line (R178) -/

/-- The two digits of a byte, high digit first, zero-padded. -/
theorem numeral_hexByte (upper : Bool) (b : Byte) :
    numeral 16 upper (hexByte upper b) = some b.toNat := by
  have hhigh : b.toNat / 16 < 16 := by omega
  have hlow : b.toNat % 16 < 16 := by omega
  rw [hexByte, numeral, if_neg (List.cons_ne_nil _ _),
    numeralFrom_digitChar upper 0 _ le_rfl hhigh, numeralFrom_digitChar upper _ [] le_rfl hlow,
    Nat.zero_mul, Nat.zero_add, Nat.div_add_mod']
  rfl

theorem intercalate_singleton_cons (sep : Char) (text : List Char) (texts : List (List Char)) :
    List.intercalate [sep] (text :: texts) = text ++ texts.flatMap (sep :: ·) := by
  induction texts generalizing text with
  | nil => simp [List.intercalate]
  | cons next texts ih =>
    rw [List.flatMap_cons, List.cons_append, ← ih next]
    simp [List.intercalate]

theorem sinkFields_eq_intercalate (upper : Bool) (r : Record) :
    sinkFields upper r = List.intercalate [',']
      (decimal r.packetId.toNat :: hexPlain upper r.canId.toNat :: r.data.map (hexByte upper)) := by
  rw [intercalate_singleton_cons, List.flatMap_cons, List.flatMap_map, sinkFields]
  simp

/-- Settles O15: the digits of each field spell its value, in the case of the line. -/
theorem sinkLineFields : Obligations.SinkLineFields := by
  refine ⟨fun upper r => ?_, fun r => ⟨Config.lqFormat r.rssi r.snr, rfl⟩⟩
  have hpacketId : r.packetId.toNat < 10 ^ 10 := by omega
  have hcanId : r.canId.toNat < 16 ^ 8 := by omega
  refine ⟨decimal r.packetId.toNat, hexPlain upper r.canId.toNat, r.data.map (hexByte upper),
    sinkFields_eq_intercalate upper r, ?_, ?_, ?_, ?_, ?_, fun hdata => ?_⟩
  · rw [decimal_eq_digits upper]
    exact numeral_digitsOf upper (by decide) hpacketId
  · rw [decimal_eq_digits upper]
    exact withoutLeadingZeros_digitsOf upper (by decide) hpacketId
  · exact numeral_digitsOf upper le_rfl hcanId
  · exact withoutLeadingZeros_digitsOf upper le_rfl hcanId
  · rw [List.forall₂_map_left_iff, List.forall₂_same]
    exact fun b _ => ⟨rfl, numeral_hexByte upper b⟩
  · simp [sinkFields, hdata]

end Sys2Proof.Machine

/-! ### Proofs about reset (70_reset_and_hazards.md): what a unit that is not started does with each operation
it accepts. -/

namespace Sys2Proof.Machine

open Sys2Proof

/-! #### Between reset and START (R201) -/

section
variable {s t : State} {i : Instr}

/-- The moves of a stopped TX unit other than RESET, START and REG_READ are ignored (R113, R116). -/
theorem TxMove.ignored_of_stopped (move : TxMove s i t) (stopped : s.txStarted = false)
    (hreset : i ≠ .reset) (hstart : i ≠ .start) (hread : ∀ r, i ≠ .regRead r) :
    t = s.note i .ignored [] := by
  cases move with
  | ignoreFrame | ignoreDone => rfl
  | admission _ started | drop _ started | complete _ started =>
    exact absurd (started.symm.trans stopped) nofun
  | reset => exact absurd rfl hreset
  | start | ignoreStart => exact absurd rfl hstart
  | read r => exact absurd rfl (hread r)

/-- The moves of a stopped RX unit other than RESET, START, REG_READ and a service are ignored (R122). -/
theorem RxMove.ignored_of_stopped (move : RxMove s i t) (stopped : s.rxStarted = false)
    (hreset : i ≠ .reset) (hstart : i ≠ .start) (hservice : i ≠ .rxService)
    (hread : ∀ r, i ≠ .regRead r) : t = s.note i .ignored [] := by
  cases move with
  | ignoreReport => rfl
  | latch _ _ _ started => exact absurd (started.symm.trans stopped) nofun
  | reset => exact absurd rfl hreset
  | start | ignoreStart => exact absurd rfl hstart
  | service => exact absurd rfl hservice
  | read r => exact absurd rfl (hread r)

end

/-- Settles O46: an accepted operation completes with a move of its unit, which only RESET, START and
REG_READ have take effect before START; a service is accepted at an RX unit, and refused as it is IDLE. -/
theorem betweenResetAndStart : Obligations.BetweenResetAndStart := by
  intro i s hwf txStopped rxStopped idle
  refine ⟨fun hreset hstart hservice hread => ?_, ?_, ?_⟩
  · obtain ⟨t, hexec⟩ := exec_completes hwf fun h => absurd h hservice
    have ignored : t = s.note i .ignored [] := by
      obtain ⟨-, move⟩ | ⟨-, move⟩ := exec_move hexec
      · exact move.ignored_of_stopped txStopped hreset hstart hread
      · exact move.ignored_of_stopped rxStopped hreset hstart hservice hread
    rw [hexec, ignored, State.note]
  · rintro rfl
    obtain ⟨hunit, -⟩ := wellFormed_iff.mp hwf
    exact exec_rxService_refused (hunit .rx rfl) (by simp [idle])
  · rintro (rfl | rfl | ⟨r, rfl⟩)
    · exact execReset_completes s
    · exact execStart_completes s
    · exact ⟨_, exec_regRead s r⟩

end Sys2Proof.Machine
